-- ==== Sys2Proof/Word.lean ====
section
/-! DEFINITION. The plain data types every layer uses: port words, bytes, 7-bit operands, the binary32 datum, and
the two-element indices (module A/B, channel L/R) with the records they index. Rules R9, R10, R11, R12, R130, R133. -/

namespace Sys2Proof

/-- One 26-bit transaction on the host port (R130). -/
abbrev PortWord := BitVec 26

/-- A byte of a command word, or of a serialised value (R104, R133). -/
abbrev Byte := BitVec 8

/-- A data byte that has passed R136: a pitch, a velocity, a control ID or a control value (R138). -/
abbrev Seven := BitVec 7

/-- The LCG state, an unsigned 32-bit integer that wraps (R16, R254). -/
abbrev U32 := BitVec 32

/-- A binary32 datum (R12): a signed finite value, a signed infinity, or NaN.
`fin neg mag` holds the low 31 bits of the pattern (exponent field and fraction), which for a finite value are below
`0x7F800000`, so every value of the type is a datum and every datum other than NaN has exactly one pattern.
NaN has no sign and no payload here: no rule reads one and no rule fixes one (R15, R463, R475 and row 1 of
`93_implementation_defined.md`). The pattern of a NaN that leaves the block is free (`Config.nanPattern`). -/
inductive F32 where
  | nan
  | inf (neg : Bool)
  | fin (neg : Bool) (mag : Fin 0x7F800000)
  deriving DecidableEq, Repr

/-- The two oscillator-and-shaper modules of a voice (R11, R22). -/
inductive Module where
  | a
  | b
  deriving DecidableEq, Repr

/-- The other module, the `X'` of R11. -/
def Module.other : Module → Module
  | .a => .b
  | .b => .a

/-- The two output channels: L is index 0 and R is index 1 (R9, R11). -/
inductive Channel where
  | l
  | r
  deriving DecidableEq, Repr

/-- The other channel, whose history feeds across into this one (R350). -/
def Channel.other : Channel → Channel
  | .l => .r
  | .r => .l

/-- One value per module. -/
structure PerModule (α : Type) where
  a : α
  b : α
  deriving DecidableEq, Repr

/-- One value per channel. -/
structure PerChannel (α : Type) where
  l : α
  r : α
  deriving DecidableEq, Repr

def PerModule.get {α : Type} (p : PerModule α) : Module → α
  | .a => p.a
  | .b => p.b

def PerModule.set {α : Type} (p : PerModule α) (x : α) : Module → PerModule α
  | .a => { p with a := x }
  | .b => { p with b := x }

def PerChannel.get {α : Type} (p : PerChannel α) : Channel → α
  | .l => p.l
  | .r => p.r

end Sys2Proof
end

