-- ==== Sys2Proof/Config.lean ====
section
/-! DEFINITION. The configuration NLA-CORE is elaborated with (R7, R20, R381, R103), which no port word changes (R468),
and the one free value of the spec, the sign and fraction of a NaN pattern (R475). Which configurations are legal and what
the defaults are is in `Machine/Elaboration.lean`. -/

namespace Sys2Proof

/-- How a platform attaches the host port: the parameter `PORT_ATTACH`, left OPEN. No rule reads it (R103, OPEN-1). -/
inductive PortAttach where
  | memoryMappedFifo
  | streamInterface
  | functionCall
  | otherMechanism (number : Nat)
  deriving DecidableEq, Repr

/-- The configuration parameters of R7. They are raw data: `Config.legal` says which values describe an instance. -/
structure Config where
  /-- `N`, the number of voice slots, legal in 1..64. -/
  n : Nat
  /-- `FS`, the sample rate in Hz, a binary32 value, legal when integer-valued in 8000..192000. -/
  fs : F32
  /-- `FRAMES`, TICKs per host callback; only the host uses it (R117). -/
  frames : Nat
  /-- `ECHO_BUF`, elements of an echo line. -/
  echoBuf : Nat
  /-- `COMB_BUF`, elements of a comb line. -/
  combBuf : Nat
  /-- `CTRL_MAP`: for each control ID a parameter id, or `none` for NONE (R381). -/
  ctrlMap : List (Option Nat)
  /-- `S_NOTE_ON`, the status byte of key-down. -/
  sNoteOn : Byte
  /-- `S_NOTE_OFF`, the status byte of key-up. -/
  sNoteOff : Byte
  /-- `S_CTRL`, the status byte of a control change. -/
  sCtrl : Byte
  /-- `DNC`, the denormal-cancelling bias (R18). -/
  dnc : F32
  /-- `PORT_ATTACH` (R103). -/
  portAttach : PortAttach
  deriving DecidableEq, Repr

/-- The free sign of the `n`-th NaN pattern that leaves the block. It has no body: nothing constrains it (R475). -/
opaque Config.nanSign : Nat → Bool

/-- The free fraction of the `n`-th NaN pattern that leaves the block. It has no body: nothing constrains it (R475). -/
opaque Config.nanFraction : Nat → BitVec 23

end Sys2Proof
end

