-- ==== Sys2Proof/Machine/Float.lean ====
section
/-! DEFINITION. IEEE 754 binary32 arithmetic, round to nearest, ties to even, subnormals kept, no fused operation
(R12, R14, R15). Every finite value is a whole number of units of `2^-149`, so each operation computes its exact
result on natural numbers and rounds once, in `F32.roundScaled`. The operations are irreducible so that comparing two
states never unfolds arithmetic; the kernel evaluates them as usual. -/

namespace Sys2Proof

/-- The datum of a 32-bit pattern; every NaN pattern is the one NaN datum (R12, R15). -/
def F32.ofBits (b : BitVec 32) : F32 :=
  let m := b.toNat % 2147483648
  if h : m < 0x7F800000 then .fin (decide (2147483648 ≤ b.toNat)) ⟨m, h⟩
  else if m = 0x7F800000 then .inf (decide (2147483648 ≤ b.toNat)) else .nan

/-- The 32-bit pattern of a datum, with `nanBits` for NaN (R105; which pattern a NaN gets is free, R475). -/
def F32.toBits (nanBits : BitVec 32) : F32 → BitVec 32
  | .nan => nanBits
  | .inf neg => (if neg then 0x80000000#32 else 0#32) ||| 0x7F800000#32
  | .fin neg mag => (if neg then 0x80000000#32 else 0#32) ||| BitVec.ofNat 32 mag.val

def F32.isNan : F32 → Bool
  | .nan => true
  | _ => false

def F32.isFinite : F32 → Bool
  | .fin _ _ => true
  | _ => false

/-- The magnitude of a finite value in units of `2^-149`, from its exponent field and fraction (R12, R15). -/
def F32.units (mag : Nat) : Nat :=
  let e := mag / 8388608
  let f := mag % 8388608
  if e = 0 then f else (8388608 + f) <<< (e - 1)

/-- The signed value of a finite datum in units of `2^-149`; infinities and NaN give 0 here and are never read. -/
def F32.value149 : F32 → Int
  | .fin neg mag => if neg then -((F32.units mag.val : Nat) : Int) else ((F32.units mag.val : Nat) : Int)
  | _ => 0

/-- Place of the highest set bit of `x < 2^(2^fuel)`, by halving the width searched. -/
def highBit : Nat → Nat → Nat
  | 0, _ => 0
  | i + 1, x => if x >>> 2 ^ i = 0 then highBit i x else 2 ^ i + highBit i (x >>> 2 ^ i)

/-- The datum of a sign and a 31-bit magnitude pattern; a pattern at or past the infinity's is an overflow. -/
def F32.pack (neg : Bool) (m : Nat) : F32 :=
  if h : m < 0x7F800000 then .fin neg ⟨m, h⟩ else .inf neg

/-- The binary32 value nearest to `±m * 2^-s`, ties to even, for `149 ≤ s` and `m < 2^1024`: the one rounding of
every operation (R12). The quantum is `2^(k-s)`; a carry out of the fraction runs into the exponent field. -/
@[irreducible] def F32.roundScaled (neg : Bool) (m s : Nat) : F32 :=
  match m with
  | 0 => F32.pack neg 0
  | i + 1 =>
    let k := max (highBit 10 (i + 1)) (s - 126) - 23
    let q := (i + 1) >>> k
    let r := (i + 1) % 2 ^ k
    let q' := if 2 ^ k < 2 * r ∨ (2 * r = 2 ^ k ∧ q % 2 = 1) then q + 1 else q
    F32.pack neg ((k - (s - 149)) * 8388608 + q')

/-- The binary32 value nearest to `±n / d` (`0 < d`), ties to even: the quotient to `2^-300` with a sticky bit below
it, then one rounding. -/
@[irreducible] def F32.roundQuot (neg : Bool) (n d : Nat) : F32 :=
  match n with
  | 0 => F32.pack neg 0
  | i + 1 =>
    let q := ((i + 1) <<< 300) / d
    F32.roundScaled neg (2 * q + (if ((i + 1) <<< 300) % d = 0 then 0 else 1)) 301

/-- A literal of the rules, by its pattern. -/
abbrev lit (b : BitVec 32) : F32 := F32.ofBits b

def F32.zero : F32 := .fin false 0
def F32.one : F32 := lit 0x3F800000
def F32.two : F32 := lit 0x40000000
def F32.half : F32 := lit 0x3F000000
def F32.quarter : F32 := lit 0x3E800000

/-- `-x` flips the sign (R14). -/
def F32.neg : F32 → F32
  | .nan => .nan
  | .inf s => .inf (!s)
  | .fin s m => .fin (!s) m

/-- `abs(x)` clears the sign (R14). -/
def F32.abs : F32 → F32
  | .nan => .nan
  | .inf _ => .inf false
  | .fin _ m => .fin false m

/-- The sum of two finite values: an exact cancellation gives `+0.0`, and `-0.0 + -0.0` is `-0.0` (R12). -/
def F32.addFinite (s : Bool) (x : Nat) (t : Bool) (y : Nat) : F32 :=
  if s = t then F32.roundScaled s (x + y) 149
  else if x = y then F32.zero
  else if y < x then F32.roundScaled s (x - y) 149
  else F32.roundScaled t (y - x) 149

/-- `x + y` (R12). -/
@[irreducible] def F32.add : F32 → F32 → F32
  | .nan, _ => .nan
  | _, .nan => .nan
  | .inf s, .inf t => if s = t then .inf s else .nan
  | .inf s, .fin _ _ => .inf s
  | .fin _ _, .inf t => .inf t
  | .fin s x, .fin t y => F32.addFinite s (F32.units x.val) t (F32.units y.val)

/-- `x - y` (R12). -/
def F32.sub (x y : F32) : F32 := x.add y.neg

/-- `x * y` (R12). -/
@[irreducible] def F32.mul : F32 → F32 → F32
  | .nan, _ => .nan
  | _, .nan => .nan
  | .inf s, .inf t => .inf (s ^^ t)
  | .inf s, .fin t y => if y.val = 0 then .nan else .inf (s ^^ t)
  | .fin s x, .inf t => if x.val = 0 then .nan else .inf (s ^^ t)
  | .fin s x, .fin t y => F32.roundScaled (s ^^ t) (F32.units x.val * F32.units y.val) 298

/-- `x / y` (R12). -/
@[irreducible] def F32.div : F32 → F32 → F32
  | .nan, _ => .nan
  | _, .nan => .nan
  | .inf _, .inf _ => .nan
  | .inf s, .fin t _ => .inf (s ^^ t)
  | .fin s _, .inf t => .fin (s ^^ t) 0
  | .fin s x, .fin t y =>
    if y.val = 0 then (if x.val = 0 then .nan else .inf (s ^^ t))
    else F32.roundQuot (s ^^ t) (F32.units x.val) (F32.units y.val)

/-- The bits `bits-1 .. 0` of the integer square root of `n`, found from the top, above the root `r` found so far. -/
def isqrtBits : Nat → Nat → Nat → Nat
  | 0, _, r => r
  | i + 1, n, r => if (r + 2 ^ i) * (r + 2 ^ i) ≤ n then isqrtBits i n (r + 2 ^ i) else isqrtBits i n r

/-- `sqrt(x)`, correctly rounded (R12, R220): the root to `2^-150` with a sticky bit below it. -/
@[irreducible] def F32.sqrt : F32 → F32
  | .nan => .nan
  | .inf neg => if neg then .nan else .inf false
  | .fin neg x =>
    if x.val = 0 then .fin neg x
    else if neg then .nan
    else
      let n := F32.units x.val <<< 151
      let r := isqrtBits 216 n 0
      F32.roundScaled false (2 * r + (if r * r = n then 0 else 1)) 151

/-- `floor(x)`, the largest integer-valued binary32 value not above `x` (R14); a zero keeps its sign, and NaN and the
infinities are themselves (R210, R257). -/
@[irreducible] def F32.floor : F32 → F32
  | .nan => .nan
  | .inf s => .inf s
  | .fin s x =>
    let u := F32.units x.val
    let i := u >>> 149
    let up := s && decide (u % 2 ^ 149 ≠ 0)
    F32.roundScaled s ((if up then i + 1 else i) <<< 149) 149

/-- `x < y`: the IEEE comparison, false when an operand is NaN (R14). -/
def F32.lt : F32 → F32 → Bool
  | .nan, _ => false
  | _, .nan => false
  | .inf s, .inf t => s && !t
  | .inf s, .fin _ _ => s
  | .fin _ _, .inf t => !t
  | .fin false x, .fin false y => decide (x.val < y.val)
  | .fin true x, .fin true y => decide (y.val < x.val)
  | .fin true x, .fin false y => decide (x.val ≠ 0 ∨ y.val ≠ 0)
  | .fin false _, .fin true _ => false

/-- `x > y` (R14). -/
def F32.gt (x y : F32) : Bool := y.lt x

/-- `x >= y`, false when an operand is NaN (R14). -/
def F32.ge (x y : F32) : Bool := !x.isNan && !y.isNan && !x.lt y

/-- `min(a, b)` returns `a` if `a < b` else `b` (R14). -/
def F32.min (a b : F32) : F32 := if a.lt b then a else b

/-- `max(a, b)` returns `a` if `a > b` else `b` (R14). -/
def F32.max (a b : F32) : F32 := if a.gt b then a else b

/-- `clamp(x, lo, hi) = min(max(x, lo), hi)` (R14). -/
def F32.clamp (x lo hi : F32) : F32 := (x.max lo).min hi

/-- `clamp01(x) = clamp(x, 0.0, 1.0)` (R14). -/
def F32.clamp01 (x : F32) : F32 := x.clamp F32.zero F32.one

/-- `f32(i)` of a natural number, one rounding (R14). -/
def F32.ofNat (i : Nat) : F32 := F32.roundScaled false (i <<< 149) 149

/-- `f32(i)` of an integer, one rounding (R14, R16, R255). -/
def F32.ofInt (i : Int) : F32 := F32.roundScaled (decide (i < 0)) (i.natAbs <<< 149) 149

/-- The integer part of a non-negative finite value, as an integer (R341). -/
def F32.toNat : F32 → Nat
  | .fin false x => F32.units x.val >>> 149
  | _ => 0

end Sys2Proof
end

