-- ==== Sys2Proof/Machine/Elaboration.lean ====
section
/-! DEFINITION. Elaboration: the default configuration and the sizes it derives (R7, R20, R381), which configurations
are legal (R474), and the pattern of a NaN that leaves the block (R475). -/

namespace Sys2Proof

/-- The number of parameters (R53, R100). -/
def paramCount : Nat := 55

/-- The default `CTRL_MAP` of R381: control IDs 0..54 select the parameter of the same id, 55..127 select none. -/
def Config.identityMap : List (Option Nat) :=
  (List.range 128).map fun i => if i < paramCount then some i else none

/-- The smallest power of two not below `n`, from `p` doubled at most `fuel` times (R20). -/
def powerOfTwoFrom : Nat → Nat → Nat → Nat
  | 0, p, _ => p
  | fuel + 1, p, n => if n ≤ p then p else powerOfTwoFrom fuel (2 * p) n

/-- `ECHO_BUF` for a sample rate: the smallest power of two `>= max(131072, ceil(2.25 * FS) + 4)` (R20). -/
def echoBufFor (fs : Nat) : Nat := powerOfTwoFrom 64 1 (max 131072 ((9 * fs + 3) / 4 + 4))

/-- `COMB_BUF` for a sample rate: the smallest power of two `>= ceil(FS / 8.1758) + 4` (R20). -/
def combBufFor (fs : Nat) : Nat := powerOfTwoFrom 64 1 ((10000 * fs + 81757) / 81758 + 4)

/-- The configuration of `n` slots at `fs` Hz with every other parameter at its default (R7, R20). -/
def Config.standard (n fs : Nat) : Config where
  n := n
  fs := F32.ofNat fs
  frames := 256
  echoBuf := echoBufFor fs
  combBuf := combBufFor fs
  ctrlMap := Config.identityMap
  sNoteOn := 0x90
  sNoteOff := 0x80
  sCtrl := 0xB0
  dnc := lit 0x219392EF
  portAttach := .functionCall

/-- The default configuration of R7: twelve slots at 48000 Hz. -/
def Config.default : Config := Config.standard 12 48000

/-- Whether a size is a power of two. -/
def isPowerOfTwo (n : Nat) : Bool := n != 0 && (n &&& (n - 1)) == 0

/-- Whether a `CTRL_MAP` entry is `NONE` or names a parameter (R381). -/
def ctrlEntryLegal : Option Nat → Bool
  | none => true
  | some k => decide (k < paramCount)

/-- The legal values of R7, as R474 and row 10 of `93_implementation_defined.md` list the refused ones: buffer sizes
are powers of two not below R20's, and the status bytes are three distinct bytes with bit 7 set. -/
def Config.legal (c : Config) : Bool :=
  decide (1 ≤ c.n) && decide (c.n ≤ 64)
    && decide (c.fs = F32.ofNat c.fs.toNat) && decide (8000 ≤ c.fs.toNat) && decide (c.fs.toNat ≤ 192000)
    && decide (1 ≤ c.frames)
    && isPowerOfTwo c.echoBuf && decide (echoBufFor c.fs.toNat ≤ c.echoBuf)
    && isPowerOfTwo c.combBuf && decide (combBufFor c.fs.toNat ≤ c.combBuf)
    && c.ctrlMap.length == 128 && c.ctrlMap.all ctrlEntryLegal
    && c.sNoteOn.msb && c.sNoteOff.msb && c.sCtrl.msb
    && c.sNoteOn != c.sNoteOff && c.sNoteOn != c.sCtrl && c.sNoteOff != c.sCtrl

/-- The bit pattern of the `n`-th NaN that leaves the block: any NaN (R463, R475). The exponent field is all ones and
the fraction is not zero, which is what makes it a NaN; the rest is free. -/
def Config.nanPattern (n : Nat) : BitVec 32 :=
  BitVec.ofBool (Config.nanSign n) ++ 0xFF#8 ++ (if Config.nanFraction n = 0 then 1#23 else Config.nanFraction n)

end Sys2Proof
end

