-- ==== Sys2Proof/Syntax.lean ====
section
/-! DEFINITION. The parameters (R53, R100) and the instructions, one constructor for each row of the opcode table (R139).
Operands are the fields of the row: 7-bit pitches, velocities, control IDs and values (R138), and the payload bits that
TICK, RESET and the reserved words carry and ignore (R132). -/

namespace Sys2Proof

/-- The 55 parameters (R53), by the names of the rules. -/
inductive Param where
  | aFluct
  | aChirp
  | aPmSelf
  | aPmCross
  | aPmSelfShp
  | aPmCrossShp
  | aDrive
  | aFold
  | aAsym
  | aMainmix
  | aRing
  | aLevel
  | aPan
  | bFluct
  | bChirp
  | bPmSelf
  | bPmCross
  | bPmSelfShp
  | bPmCrossShp
  | bDrive
  | bFold
  | bAsym
  | bMainmix
  | bRing
  | bLevel
  | bPan
  | keypan
  | mixDrive
  | mixFold
  | mixAsym
  | mixLevel
  | cabDrive
  | cabLocut
  | cabHicut
  | cabTilt
  | cabFold
  | cabAsym
  | cabMix
  | cabLevel
  | echoTime
  | echoStereo
  | echoFb
  | echoXfb
  | echoHicut
  | echoMix
  | combMix
  | combDecay
  | combAp
  | combApRes
  | combKt
  | ufEnable
  | ufType
  | ufCutoff
  | ufRes
  | ufShelf
  deriving DecidableEq, Repr

/-- The instructions: what a port word can ask NLA-CORE to do (R132, R134, R139). -/
inductive Instr where
  /-- key down, velocity not 0 (R164) -/
  | noteOn (pitch vel : Seven)
  /-- key down with velocity 0, which executes as key up (R165) -/
  | noteOnV0 (pitch : Seven)
  /-- key up; the second operand is ignored (R166) -/
  | noteOff (pitch ignored : Seven)
  /-- `SET A_FLUCT` (R400) -/
  | setAFluct (v : Seven)
  /-- `SET A_CHIRP` (R401) -/
  | setAChirp (v : Seven)
  /-- `SET A_PM_SELF` (R402) -/
  | setAPmSelf (v : Seven)
  /-- `SET A_PM_CROSS` (R403) -/
  | setAPmCross (v : Seven)
  /-- `SET A_PM_SELF_SHP` (R404) -/
  | setAPmSelfShp (v : Seven)
  /-- `SET A_PM_CROSS_SHP` (R405) -/
  | setAPmCrossShp (v : Seven)
  /-- `SET A_DRIVE` (R406) -/
  | setADrive (v : Seven)
  /-- `SET A_FOLD` (R407) -/
  | setAFold (v : Seven)
  /-- `SET A_ASYM` (R408) -/
  | setAAsym (v : Seven)
  /-- `SET A_MAINMIX` (R409) -/
  | setAMainmix (v : Seven)
  /-- `SET A_RING` (R410) -/
  | setARing (v : Seven)
  /-- `SET A_LEVEL` (R411) -/
  | setALevel (v : Seven)
  /-- `SET A_PAN` (R412) -/
  | setAPan (v : Seven)
  /-- `SET B_FLUCT` (R413) -/
  | setBFluct (v : Seven)
  /-- `SET B_CHIRP` (R414) -/
  | setBChirp (v : Seven)
  /-- `SET B_PM_SELF` (R415) -/
  | setBPmSelf (v : Seven)
  /-- `SET B_PM_CROSS` (R416) -/
  | setBPmCross (v : Seven)
  /-- `SET B_PM_SELF_SHP` (R417) -/
  | setBPmSelfShp (v : Seven)
  /-- `SET B_PM_CROSS_SHP` (R418) -/
  | setBPmCrossShp (v : Seven)
  /-- `SET B_DRIVE` (R419) -/
  | setBDrive (v : Seven)
  /-- `SET B_FOLD` (R420) -/
  | setBFold (v : Seven)
  /-- `SET B_ASYM` (R421) -/
  | setBAsym (v : Seven)
  /-- `SET B_MAINMIX` (R422) -/
  | setBMainmix (v : Seven)
  /-- `SET B_RING` (R423) -/
  | setBRing (v : Seven)
  /-- `SET B_LEVEL` (R424) -/
  | setBLevel (v : Seven)
  /-- `SET B_PAN` (R425) -/
  | setBPan (v : Seven)
  /-- `SET KEYPAN` (R426) -/
  | setKeypan (v : Seven)
  /-- `SET MIX_DRIVE` (R427) -/
  | setMixDrive (v : Seven)
  /-- `SET MIX_FOLD` (R428) -/
  | setMixFold (v : Seven)
  /-- `SET MIX_ASYM` (R429) -/
  | setMixAsym (v : Seven)
  /-- `SET MIX_LEVEL` (R430) -/
  | setMixLevel (v : Seven)
  /-- `SET CAB_DRIVE` (R431) -/
  | setCabDrive (v : Seven)
  /-- `SET CAB_LOCUT` (R432) -/
  | setCabLocut (v : Seven)
  /-- `SET CAB_HICUT` (R433) -/
  | setCabHicut (v : Seven)
  /-- `SET CAB_TILT` (R434) -/
  | setCabTilt (v : Seven)
  /-- `SET CAB_FOLD` (R435) -/
  | setCabFold (v : Seven)
  /-- `SET CAB_ASYM` (R436) -/
  | setCabAsym (v : Seven)
  /-- `SET CAB_MIX` (R437) -/
  | setCabMix (v : Seven)
  /-- `SET CAB_LEVEL` (R438) -/
  | setCabLevel (v : Seven)
  /-- `SET ECHO_TIME` (R439) -/
  | setEchoTime (v : Seven)
  /-- `SET ECHO_STEREO` (R440) -/
  | setEchoStereo (v : Seven)
  /-- `SET ECHO_FB` (R441) -/
  | setEchoFb (v : Seven)
  /-- `SET ECHO_XFB` (R442) -/
  | setEchoXfb (v : Seven)
  /-- `SET ECHO_HICUT` (R443) -/
  | setEchoHicut (v : Seven)
  /-- `SET ECHO_MIX` (R444) -/
  | setEchoMix (v : Seven)
  /-- `SET COMB_MIX` (R445) -/
  | setCombMix (v : Seven)
  /-- `SET COMB_DECAY` (R446) -/
  | setCombDecay (v : Seven)
  /-- `SET COMB_AP` (R447) -/
  | setCombAp (v : Seven)
  /-- `SET COMB_AP_RES` (R448) -/
  | setCombApRes (v : Seven)
  /-- `SET COMB_KT` (R449) -/
  | setCombKt (v : Seven)
  /-- `SET UF_ENABLE` (R450) -/
  | setUfEnable (v : Seven)
  /-- `SET UF_TYPE` (R451) -/
  | setUfType (v : Seven)
  /-- `SET UF_CUTOFF` (R452) -/
  | setUfCutoff (v : Seven)
  /-- `SET UF_RES` (R453) -/
  | setUfRes (v : Seven)
  /-- `SET UF_SHELF` (R454) -/
  | setUfShelf (v : Seven)
  /-- a control change whose control ID selects no parameter (R382) -/
  | ctrl (id v : Seven)
  /-- advance one sample period (R170); the payload is ignored -/
  | tick (payload : BitVec 24)
  /-- put every state element in its reset value (R490); the payload is ignored -/
  | reset (payload : BitVec 24)
  /-- the reserved operation class, a no-operation (R137); the payload is ignored -/
  | reserved (payload : BitVec 24)
  deriving DecidableEq, Repr

end Sys2Proof
end

