-- ==== Sys2Proof/Machine/ParamIds.lean ====
section
/-! DEFINITION. The parameter ids (R53), and the shape of an instruction: the fifty-five `SET_<P>` constructors are one
shape, a parameter and a control value (R382), for the encoding and the decoder. -/

namespace Sys2Proof

/-- The parameters in the order of their ids 0..54 (R53). -/
def Param.all : List Param :=
  [.aFluct, .aChirp, .aPmSelf, .aPmCross, .aPmSelfShp,
   .aPmCrossShp, .aDrive, .aFold, .aAsym, .aMainmix,
   .aRing, .aLevel, .aPan, .bFluct, .bChirp,
   .bPmSelf, .bPmCross, .bPmSelfShp, .bPmCrossShp, .bDrive,
   .bFold, .bAsym, .bMainmix, .bRing, .bLevel,
   .bPan, .keypan, .mixDrive, .mixFold, .mixAsym,
   .mixLevel, .cabDrive, .cabLocut, .cabHicut, .cabTilt,
   .cabFold, .cabAsym, .cabMix, .cabLevel, .echoTime,
   .echoStereo, .echoFb, .echoXfb, .echoHicut, .echoMix,
   .combMix, .combDecay, .combAp, .combApRes, .combKt,
   .ufEnable, .ufType, .ufCutoff, .ufRes, .ufShelf]

/-- The parameter id (R53). -/
def Param.id : Param → Nat
  | .aFluct => 0
  | .aChirp => 1
  | .aPmSelf => 2
  | .aPmCross => 3
  | .aPmSelfShp => 4
  | .aPmCrossShp => 5
  | .aDrive => 6
  | .aFold => 7
  | .aAsym => 8
  | .aMainmix => 9
  | .aRing => 10
  | .aLevel => 11
  | .aPan => 12
  | .bFluct => 13
  | .bChirp => 14
  | .bPmSelf => 15
  | .bPmCross => 16
  | .bPmSelfShp => 17
  | .bPmCrossShp => 18
  | .bDrive => 19
  | .bFold => 20
  | .bAsym => 21
  | .bMainmix => 22
  | .bRing => 23
  | .bLevel => 24
  | .bPan => 25
  | .keypan => 26
  | .mixDrive => 27
  | .mixFold => 28
  | .mixAsym => 29
  | .mixLevel => 30
  | .cabDrive => 31
  | .cabLocut => 32
  | .cabHicut => 33
  | .cabTilt => 34
  | .cabFold => 35
  | .cabAsym => 36
  | .cabMix => 37
  | .cabLevel => 38
  | .echoTime => 39
  | .echoStereo => 40
  | .echoFb => 41
  | .echoXfb => 42
  | .echoHicut => 43
  | .echoMix => 44
  | .combMix => 45
  | .combDecay => 46
  | .combAp => 47
  | .combApRes => 48
  | .combKt => 49
  | .ufEnable => 50
  | .ufType => 51
  | .ufCutoff => 52
  | .ufRes => 53
  | .ufShelf => 54

/-- The parameter an id names, if it names one (R381). -/
def Param.ofId? (k : Nat) : Option Param := Param.all[k]?

/-- The `SET_<P>` instruction of a parameter (R382: `SET_k` is the rule R(400 + k)). -/
def Param.setInstr (v : Seven) : Param → Instr
  | .aFluct => .setAFluct v
  | .aChirp => .setAChirp v
  | .aPmSelf => .setAPmSelf v
  | .aPmCross => .setAPmCross v
  | .aPmSelfShp => .setAPmSelfShp v
  | .aPmCrossShp => .setAPmCrossShp v
  | .aDrive => .setADrive v
  | .aFold => .setAFold v
  | .aAsym => .setAAsym v
  | .aMainmix => .setAMainmix v
  | .aRing => .setARing v
  | .aLevel => .setALevel v
  | .aPan => .setAPan v
  | .bFluct => .setBFluct v
  | .bChirp => .setBChirp v
  | .bPmSelf => .setBPmSelf v
  | .bPmCross => .setBPmCross v
  | .bPmSelfShp => .setBPmSelfShp v
  | .bPmCrossShp => .setBPmCrossShp v
  | .bDrive => .setBDrive v
  | .bFold => .setBFold v
  | .bAsym => .setBAsym v
  | .bMainmix => .setBMainmix v
  | .bRing => .setBRing v
  | .bLevel => .setBLevel v
  | .bPan => .setBPan v
  | .keypan => .setKeypan v
  | .mixDrive => .setMixDrive v
  | .mixFold => .setMixFold v
  | .mixAsym => .setMixAsym v
  | .mixLevel => .setMixLevel v
  | .cabDrive => .setCabDrive v
  | .cabLocut => .setCabLocut v
  | .cabHicut => .setCabHicut v
  | .cabTilt => .setCabTilt v
  | .cabFold => .setCabFold v
  | .cabAsym => .setCabAsym v
  | .cabMix => .setCabMix v
  | .cabLevel => .setCabLevel v
  | .echoTime => .setEchoTime v
  | .echoStereo => .setEchoStereo v
  | .echoFb => .setEchoFb v
  | .echoXfb => .setEchoXfb v
  | .echoHicut => .setEchoHicut v
  | .echoMix => .setEchoMix v
  | .combMix => .setCombMix v
  | .combDecay => .setCombDecay v
  | .combAp => .setCombAp v
  | .combApRes => .setCombApRes v
  | .combKt => .setCombKt v
  | .ufEnable => .setUfEnable v
  | .ufType => .setUfType v
  | .ufCutoff => .setUfCutoff v
  | .ufRes => .setUfRes v
  | .ufShelf => .setUfShelf v

/-- The shapes of an instruction. -/
inductive InstrShape where
  | noteOn (pitch vel : Seven)
  | noteOnV0 (pitch : Seven)
  | noteOff (pitch ignored : Seven)
  | set (k : Param) (v : Seven)
  | ctrl (id v : Seven)
  | tick (payload : BitVec 24)
  | reset (payload : BitVec 24)
  | reserved (payload : BitVec 24)
  deriving DecidableEq, Repr

/-- The shape of an instruction. -/
def Instr.shape : Instr → InstrShape
  | .noteOn pitch vel => .noteOn pitch vel
  | .noteOnV0 pitch => .noteOnV0 pitch
  | .noteOff pitch ignored => .noteOff pitch ignored
  | .setAFluct v => .set .aFluct v
  | .setAChirp v => .set .aChirp v
  | .setAPmSelf v => .set .aPmSelf v
  | .setAPmCross v => .set .aPmCross v
  | .setAPmSelfShp v => .set .aPmSelfShp v
  | .setAPmCrossShp v => .set .aPmCrossShp v
  | .setADrive v => .set .aDrive v
  | .setAFold v => .set .aFold v
  | .setAAsym v => .set .aAsym v
  | .setAMainmix v => .set .aMainmix v
  | .setARing v => .set .aRing v
  | .setALevel v => .set .aLevel v
  | .setAPan v => .set .aPan v
  | .setBFluct v => .set .bFluct v
  | .setBChirp v => .set .bChirp v
  | .setBPmSelf v => .set .bPmSelf v
  | .setBPmCross v => .set .bPmCross v
  | .setBPmSelfShp v => .set .bPmSelfShp v
  | .setBPmCrossShp v => .set .bPmCrossShp v
  | .setBDrive v => .set .bDrive v
  | .setBFold v => .set .bFold v
  | .setBAsym v => .set .bAsym v
  | .setBMainmix v => .set .bMainmix v
  | .setBRing v => .set .bRing v
  | .setBLevel v => .set .bLevel v
  | .setBPan v => .set .bPan v
  | .setKeypan v => .set .keypan v
  | .setMixDrive v => .set .mixDrive v
  | .setMixFold v => .set .mixFold v
  | .setMixAsym v => .set .mixAsym v
  | .setMixLevel v => .set .mixLevel v
  | .setCabDrive v => .set .cabDrive v
  | .setCabLocut v => .set .cabLocut v
  | .setCabHicut v => .set .cabHicut v
  | .setCabTilt v => .set .cabTilt v
  | .setCabFold v => .set .cabFold v
  | .setCabAsym v => .set .cabAsym v
  | .setCabMix v => .set .cabMix v
  | .setCabLevel v => .set .cabLevel v
  | .setEchoTime v => .set .echoTime v
  | .setEchoStereo v => .set .echoStereo v
  | .setEchoFb v => .set .echoFb v
  | .setEchoXfb v => .set .echoXfb v
  | .setEchoHicut v => .set .echoHicut v
  | .setEchoMix v => .set .echoMix v
  | .setCombMix v => .set .combMix v
  | .setCombDecay v => .set .combDecay v
  | .setCombAp v => .set .combAp v
  | .setCombApRes v => .set .combApRes v
  | .setCombKt v => .set .combKt v
  | .setUfEnable v => .set .ufEnable v
  | .setUfType v => .set .ufType v
  | .setUfCutoff v => .set .ufCutoff v
  | .setUfRes v => .set .ufRes v
  | .setUfShelf v => .set .ufShelf v
  | .ctrl id v => .ctrl id v
  | .tick payload => .tick payload
  | .reset payload => .reset payload
  | .reserved payload => .reserved payload

/-- The instruction of a shape. -/
def InstrShape.instr : InstrShape → Instr
  | .noteOn pitch vel => .noteOn pitch vel
  | .noteOnV0 pitch => .noteOnV0 pitch
  | .noteOff pitch ignored => .noteOff pitch ignored
  | .set k v => k.setInstr v
  | .ctrl id v => .ctrl id v
  | .tick payload => .tick payload
  | .reset payload => .reset payload
  | .reserved payload => .reserved payload

/-- What a control ID selects under the configuration: `CTRL_MAP[id]` (R381, R382). -/
def Config.paramOf (cfg : Config) (id : Seven) : Option Param :=
  match cfg.ctrlMap[id.toNat]? with
  | some (some k) => Param.ofId? k
  | _ => none

end Sys2Proof
end

