-- ==== Sys2Proof/WellFormed.lean ====
section
/-! DEFINITION. Which instructions a configuration can express: the side conditions the opcode table puts on the
operands (R139), and for control changes what `CTRL_MAP` selects (R381, R382). -/

namespace Sys2Proof

/-- Whether the instruction of a shape is one that a port word stands for under the configuration. A velocity of 0 is
`noteOnV0` (R165); a `SET_<P>` needs a control ID that selects its parameter; `ctrl` is a control change that selects
none, since one that selects a parameter is that parameter's `SET_<P>` (R382). -/
def InstrShape.wellFormed (cfg : Config) : InstrShape → Bool
  | .noteOn _ vel => decide (vel ≠ 0)
  | .noteOnV0 _ => true
  | .noteOff _ _ => true
  | .set k _ => cfg.ctrlMap.any fun e => decide (e = some k.id)
  | .ctrl id _ => (cfg.paramOf id).isNone
  | .tick _ => true
  | .reset _ => true
  | .reserved _ => true

/-- Whether an instruction is one that a port word stands for under the configuration. -/
def Instr.wellFormed (cfg : Config) (i : Instr) : Bool := i.shape.wellFormed cfg

end Sys2Proof
end

