-- ==== Sys2Proof/Decode.lean ====
section
/-! DEFINITION. The decoder of port words, total, rejecting by name (R130 to R138), the little-endian serialisation of a
port word and of an output value (R104), and the encoder (R139). A word the decoder rejects is a no-operation of the machine (R137, R461). -/

namespace Sys2Proof

/-- Why a decoder rejects its input. -/
inductive DecodeError where
  /-- fewer than the four bytes of a serialised port word -/
  | truncated
  /-- the four bytes hold a bit outside the 26 of a port word (R130) -/
  | outsidePortWord
  /-- a data byte of a command word has bit 7 set (R136) -/
  | dataBit7
  /-- the status byte selects no command (R134, R137) -/
  | unknownStatus
  deriving DecidableEq, Repr

/-- The operation class `OP` of a port word, bits [25:24] (R130, R132). -/
def PortWord.op (w : PortWord) : BitVec 2 := w.extractLsb' 24 2

/-- The `PAYLOAD` of a port word, bits [23:0] (R130). -/
def PortWord.payload (w : PortWord) : BitVec 24 := w.extractLsb' 0 24

/-- The status byte `S` of a command word, bits [23:16] (R133). -/
def PortWord.status (w : PortWord) : Byte := w.extractLsb' 16 8

/-- The first data byte `D1`, bits [15:8] (R133). -/
def PortWord.d1 (w : PortWord) : Byte := w.extractLsb' 8 8

/-- The second data byte `D2`, bits [7:0] (R133). -/
def PortWord.d2 (w : PortWord) : Byte := w.extractLsb' 0 8

/-- A data byte read as an unsigned 7-bit operand, once its bit 7 is known to be 0 (R138). -/
def sevenOf (d : Byte) : Seven := d.extractLsb' 0 7

/-- A control change: the `SET_<P>` of the parameter the control ID selects, or `CTRL` where it selects none (R382). -/
def decodeControl (cfg : Config) (id v : Seven) : Instr :=
  match cfg.paramOf id with
  | some k => k.setInstr v
  | none => .ctrl id v

/-- The decode of a CMD word, its checks in the order of R135. -/
def decodeCommand (cfg : Config) (s d1 d2 : Byte) : Except DecodeError Instr :=
  if d1.msb || d2.msb then .error .dataBit7
  else if s = cfg.sNoteOn then
    (if sevenOf d2 = 0 then .ok (.noteOnV0 (sevenOf d1)) else .ok (.noteOn (sevenOf d1) (sevenOf d2)))
  else if s = cfg.sNoteOff then .ok (.noteOff (sevenOf d1) (sevenOf d2))
  else if s = cfg.sCtrl then .ok (decodeControl cfg (sevenOf d1) (sevenOf d2))
  else .error .unknownStatus

/-- The decode of a port word (R132). -/
def decode (cfg : Config) (w : PortWord) : Except DecodeError Instr :=
  if w.op = 0 then decodeCommand cfg w.status w.d1 w.d2
  else if w.op = 1 then .ok (.tick w.payload)
  else if w.op = 2 then .ok (.reset w.payload)
  else .ok (.reserved w.payload)

/-- The four bytes of a serialised port word, least significant first (R104). -/
def serialise (w : PortWord) : List Byte :=
  [w.extractLsb' 0 8, w.extractLsb' 8 8, w.extractLsb' 16 8, w.extractLsb' 24 8]

/-- The four bytes of a serialised f32 output value, given by its binary32 pattern, least significant first (R104). -/
def serialiseSample (b : BitVec 32) : List Byte :=
  [b.extractLsb' 0 8, b.extractLsb' 8 8, b.extractLsb' 16 8, b.extractLsb' 24 8]

/-- The port word of its four bytes, and the bytes after them (R104). -/
def deserialise : List Byte → Except DecodeError (PortWord × List Byte)
  | b0 :: b1 :: b2 :: b3 :: rest =>
    if b3.extractLsb' 2 6 = 0 then .ok ((b3.extractLsb' 0 2 ++ b2 ++ b1 ++ b0 : PortWord), rest)
    else .error .outsidePortWord
  | _ => .error .truncated

/-- Decode the instruction at the front of a byte stream; total on any bytes. -/
def decodeBytes (cfg : Config) (bs : List Byte) : Except DecodeError (Instr × List Byte) :=
  match deserialise bs with
  | .error e => .error e
  | .ok (w, rest) =>
    match decode cfg w with
    | .error e => .error e
    | .ok i => .ok (i, rest)

/-- A CMD port word of its three bytes: `OP = 00`, `S`, `D1`, `D2` (R130, R133). -/
def commandWord (s d1 d2 : Byte) : PortWord := (0#2 ++ s ++ d1 ++ d2 : BitVec 26)

/-- A 7-bit operand as a data byte, bit 7 clear (R136, R138). -/
def dataByte (x : Seven) : Byte := (0#1 ++ x : BitVec 8)

/-- The control ID that the `SET_<P>` of a parameter encodes to: one that `CTRL_MAP` maps to it (R141). Where several map to
it (R381 allows that) the spec names none, and taking the lowest is the model's choice (DESIGN CHOICE, log 4). 0 where none
does, and then the `SET_<P>` is not well formed. -/
def controlIdOf (cfg : Config) (k : Param) : Seven :=
  BitVec.ofNat 7 ((cfg.ctrlMap.findIdx? fun e => decide (e = some k.id)).getD 0)

/-- The port word of an instruction of a shape (R139). -/
def InstrShape.encode (cfg : Config) : InstrShape → PortWord
  | .noteOn pitch vel => commandWord cfg.sNoteOn (dataByte pitch) (dataByte vel)
  | .noteOnV0 pitch => commandWord cfg.sNoteOn (dataByte pitch) 0
  | .noteOff pitch ignored => commandWord cfg.sNoteOff (dataByte pitch) (dataByte ignored)
  | .set k v => commandWord cfg.sCtrl (dataByte (controlIdOf cfg k)) (dataByte v)
  | .ctrl id v => commandWord cfg.sCtrl (dataByte id) (dataByte v)
  | .tick payload => (1#2 ++ payload : BitVec 26)
  | .reset payload => (2#2 ++ payload : BitVec 26)
  | .reserved payload => (3#2 ++ payload : BitVec 26)

/-- The port word of an instruction (R139). -/
def encode (cfg : Config) (i : Instr) : PortWord := i.shape.encode cfg

/-- The instruction the decoder reads, under the default configuration, from the bits `w` of a table row of `nbits` bits:
the bits are laid out as the four little-endian bytes of a port word (R104) and decoded. -/
def decodeTableWord (nbits w : Nat) : Option Instr :=
  let u := w % 2 ^ nbits
  match decodeBytes Config.default
      [BitVec.ofNat 8 u, BitVec.ofNat 8 (u / 2 ^ 8), BitVec.ofNat 8 (u / 2 ^ 16), BitVec.ofNat 8 (u / 2 ^ 24)] with
  | .ok (i, _) => some i
  | .error _ => none

end Sys2Proof
end

