-- ==== Sys2Proof/Machine/Round.lean ====
section
/-! DEFINITION. `rnd(e)`: the binary32 value nearest to an exact real (R13), for the reals the rules write with powers
of 2 and 10 and with `exp`. Rational arguments are rounded exactly. The others are irrational: they are bracketed in
256-bit fixed point, and the result stands when both ends of the bracket round to the same value. -/

namespace Sys2Proof

/-- `floor(ln 2 * 2^256)`. -/
def ln2Fixed : Nat := 0xb17217f7d1cf79abc9e3b39803f2f6af40f343267298b62d8a0d175b8baafa2b
/-- `floor(ln 10 * 2^256)`. -/
def ln10Fixed : Nat := 0x24d763776aaa2b05ba95b58ae0b4c28a38a3fb3e76977e43a0f187a0807c0b5ca
/-- `floor(pi * 2^256)`. -/
def piFixed : Nat := 0x3243f6a8885a308d313198a2e03707344a4093822299f31d0082efa98ec4e6c89

/-- Taylor terms of `exp` in 256-bit fixed point: `term` is `x^(n-1)/(n-1)!` and `acc` the sum of the terms before it. -/
def expTerms : Nat → Nat → Nat → Nat → Nat → Nat
  | 0, _, _, _, acc => acc
  | fuel + 1, x, n, term, acc => expTerms fuel x (n + 1) (((term * x) >>> 256) / n) (acc + term)

/-- `exp(x / 2^256) * 2^256` for `x < ln2Fixed`; 60 terms leave less than `2^-300`, and the truncations stay far inside
`bracketSlack`. -/
def expFixed (x : Nat) : Nat := expTerms 60 x 1 (2 ^ 256) 0

/-- Half the width of the bracket laid round a fixed-point value, in units of `2^-256`. -/
def bracketSlack : Nat := 2 ^ 24

/-- `rnd((n / d) * (y / 2^256) * 2^k)`, exactly rounded. -/
@[irreducible] def rndFixed (n d y : Nat) (k : Int) : F32 :=
  if 0 ≤ k then F32.roundQuot false ((n * y) <<< k.toNat) (d <<< 256)
  else F32.roundQuot false (n * y) (d <<< (256 + (-k).toNat))

/-- `rnd((n / d) * exp(t / 2^256))` (R13). The exponent is split as `k ln 2 + r`. An exponent far outside the
binary32 range is an overflow or rounds to zero. -/
@[irreducible] def rndExp (n d : Nat) (t : Int) : F32 :=
  let k := t / (ln2Fixed : Int)
  let r := (t % (ln2Fixed : Int)).toNat
  if 300 < k then .inf false
  else if k < -300 then F32.zero
  else
    let y := expFixed r
    if rndFixed n d (y - bracketSlack) k = rndFixed n d (y + bracketSlack) k
    then rndFixed n d (y - bracketSlack) k
    else rndFixed n d y k

/-- `rnd((n / d) * 2^(a / b))` (R13). A whole exponent gives a rational, rounded exactly. -/
@[irreducible] def rndPow2 (n d : Nat) (a : Int) (b : Nat) : F32 :=
  match a.natAbs with
  | 0 => F32.roundQuot false n d
  | _ + 1 =>
    if a % (b : Int) = 0 ∧ -300 ≤ a / (b : Int) ∧ a / (b : Int) ≤ 300 then rndFixed n d (2 ^ 256) (a / (b : Int))
    else rndExp n d (a * (ln2Fixed : Int) / (b : Int))

/-- `rnd(10^(a / b))` (R13). A whole exponent gives a rational, rounded exactly. -/
@[irreducible] def rndPow10 (a : Int) (b : Nat) : F32 :=
  match a.natAbs with
  | 0 => F32.one
  | _ + 1 =>
    if a % (b : Int) = 0 ∧ -60 ≤ a / (b : Int) ∧ a / (b : Int) ≤ 60 then
      (if 0 ≤ a then F32.roundQuot false (10 ^ (a / (b : Int)).toNat) 1
       else F32.roundQuot false 1 (10 ^ (-(a / (b : Int))).toNat))
    else rndExp 1 1 (a * (ln10Fixed : Int) / (b : Int))

/-- `rnd(1 - exp(-x / 2^256))` for `0 < x < ln2Fixed` (R19): `exp(-x)` is `exp(ln 2 - x) / 2`. -/
@[irreducible] def rndOneMinusExp (x : Nat) : F32 :=
  let v := 2 ^ 257 - expFixed (ln2Fixed - x)
  if F32.roundQuot false (v - bracketSlack) (2 ^ 257) = F32.roundQuot false (v + bracketSlack) (2 ^ 257)
  then F32.roundQuot false (v - bracketSlack) (2 ^ 257)
  else F32.roundQuot false v (2 ^ 257)

end Sys2Proof
end

