-- ==== Sys2Proof/Machine/Operands.lean ====
section
/-! DEFINITION. What a 7-bit operand stands for: the value mappings of a control value, a velocity or a pitch
(R383 to R398), the shelf gains (R225, R238, R396), and the constants derived from the configuration (R19).
Each mapping is its rule's formula, rounded once. -/

namespace Sys2Proof

/-- `f32(0.999)`, the resonance bound (R223). -/
def resBound : F32 := lit 0x3F7FBE77

/-- `UNI(v) = rnd(v / 127)` (R383). -/
def mapUni (v : Seven) : F32 := F32.roundQuot false v.toNat 127

/-- `BIP(v) = rnd(clamp((v - 64) / 63, -1, 1))` (R384). -/
def mapBip (v : Seven) : F32 :=
  if 64 ≤ v.toNat then F32.roundQuot false (v.toNat - 64) 63
  else F32.roundQuot true (min (64 - v.toNat) 63) 63

/-- `PAN(v) = rnd(0.5 + clamp((v - 64) / 63, -1, 1) / 2)`: the exact argument is `(v - 1) / 126`, not below 0 (R385). -/
def mapPan (v : Seven) : F32 := F32.roundQuot false (v.toNat - 1) 126

/-- `CUT(v) = rnd(20 * 2^(v / 12.75))` Hz (R386). -/
def mapCut (v : Seven) : F32 := rndPow2 20 1 (4 * (v.toNat : Int)) 51

/-- `RES(v) = clamp(f32(v - 64) / 32.0, -f32(0.999), f32(0.999))` (R387). -/
def mapRes (v : Seven) : F32 :=
  ((F32.ofInt ((v.toNat : Int) - 64)).div (lit 0x42000000)).clamp resBound.neg resBound

/-- `SHELF(v) = f32(v - 64) * 0.1875` dB (R388). -/
def mapShelf (v : Seven) : F32 := (F32.ofInt ((v.toNat : Int) - 64)).mul (lit 0x3E400000)

/-- `DRIVE(v) = rnd(10^(v * 2.5 / 127))` (R389). -/
def mapDrive (v : Seven) : F32 := rndPow10 (5 * (v.toNat : Int)) 254

/-- `TILT(v) = rnd((v - 63.5) * 50 / 63.5)` dB: the exact argument is `(2v - 127) * 50 / 127` (R390). -/
def mapTilt (v : Seven) : F32 :=
  if 64 ≤ v.toNat then F32.roundQuot false ((2 * v.toNat - 127) * 50) 127
  else F32.roundQuot true ((127 - 2 * v.toNat) * 50) 127

/-- `FLUCT(v) = rnd(v / 1270)` (R391). -/
def mapFluct (v : Seven) : F32 := F32.roundQuot false v.toNat 1270

/-- `CABLEVEL(v) = rnd(10^((v - 127) * 2.5 / 127))` (R392). -/
def mapCabLevel (v : Seven) : F32 := rndPow10 (5 * ((v.toNat : Int) - 127)) 254

/-- `TIME(v) = rnd(1.5 * v / 127)` seconds (R393). -/
def mapTime (v : Seven) : F32 := F32.roundQuot false (3 * v.toNat) 254

/-- `DECAY(v) = rnd(0.99 * v / 127)` (R394). -/
def mapDecay (v : Seven) : F32 := F32.roundQuot false (99 * v.toNat) 12700

/-- The numerator of `2 m^2 - m^4` over `127^4`, for `m = v / 127` (R395). -/
def wetNumerator (v : Seven) : Nat := 2 * v.toNat ^ 2 * 127 ^ 2 - v.toNat ^ 4

/-- `WET(v) = rnd(2 m^2 - m^4)` (R395). -/
def mapWet (v : Seven) : F32 := F32.roundQuot false (wetNumerator v) (127 ^ 4)

/-- `DRY(v) = rnd(1 - (2 m^2 - m^4))` (R395). -/
def mapDry (v : Seven) : F32 := F32.roundQuot false (127 ^ 4 - wetNumerator v) (127 ^ 4)

/-- `F0(p) = rnd(440 * 2^((p - 69) / 12))` Hz (R397). -/
def pitchFreq (p : Seven) : F32 := rndPow2 440 1 ((p.toNat : Int) - 69) 12

/-- `ENABLE(v)`, 1 when `v >= 64` (R398). -/
def mapEnable (v : Seven) : Bool := decide (64 ≤ v.toNat)

/-- `rnd(10^(db / divisor))` of a binary32 `db` read exactly; no gain of a value that is no number. -/
def rndGain (divisor : Nat) (db : F32) : F32 :=
  if db.isFinite then rndPow10 db.value149 (divisor * 2 ^ 149) else .nan

/-- `A40(db) = rnd(10^(db/40))`, the biquad shelf gain (R225). -/
def gain40 (db : F32) : F32 := rndGain 40 db

/-- `A20(db) = rnd(10^(db/20))`, the one-pole shelf gain (R238). -/
def gain20 (db : F32) : F32 := rndGain 20 db

/-- `FS` read exactly, in units of `2^-149` Hz. -/
def Config.fsUnits (cfg : Config) : Nat := cfg.fs.value149.toNat

/-- `INC = rnd(156.25 / FS)`, the increment of every ramp (R19, R191). -/
def rampInc (cfg : Config) : F32 := F32.roundQuot false (15625 * 2 ^ 149) (100 * cfg.fsUnits)

/-- `BQ_LO = FS / 24576.0`, one division (R19, R222). -/
def bqLo (cfg : Config) : F32 := cfg.fs.div (lit 0x46C00000)

/-- `BQ_HI = FS / 2.125` (R19, R222). -/
def bqHi (cfg : Config) : F32 := cfg.fs.div (lit 0x40080000)

/-- `OP_LO = FS / 24000.0` (R19, R236). -/
def opLo (cfg : Config) : F32 := cfg.fs.div (lit 0x46BB8000)

/-- `OP_HI = FS / f32(2.18)` (R19, R236). -/
def opHi (cfg : Config) : F32 := cfg.fs.div (lit 0x400B851F)

/-- `ECHO_W = rnd(1 - exp(-4*pi/FS))` (R19, R351). -/
def echoW (cfg : Config) : F32 := rndOneMinusExp (((4 * piFixed) <<< 149) / cfg.fsUnits)

/-- `HP8_FC = rnd(440 * 2^(-69/12))`, the frequency of pitch 0 (R19, R304). -/
def hp8Freq : F32 := pitchFreq 0

/-- `rnd(FS / (440 * 2^((note - 69) / 12)))`, one period of a note in samples, of a binary32 `note` read exactly (R362). -/
def notePeriod (cfg : Config) (note : F32) : F32 :=
  if note.isFinite then
    rndPow2 cfg.fsUnits (440 * 2 ^ 149) (69 * 2 ^ 149 - note.value149) (12 * 2 ^ 149)
  else .nan

end Sys2Proof
end

