-- ==== Sys2Proof/Machine/Parts.lean ====
section
/-! DEFINITION. The pieces of state the units own (file `10_state.md`), as plain data: ramps, histories, coefficient
sets, delay lines, oscillators, voice slots, the parameter file and the bus state. Their types only: what writes them
is in the units' files, and `State` gathers them. -/

namespace Sys2Proof

/-- A ramped parameter register (R51). -/
structure Ramp where
  /-- current value, the only field the DSP rules read -/
  cur : F32
  /-- value at the last initRamp -/
  base : F32
  /-- value the ramp goes to -/
  target : F32
  /-- `target - base`, rounded -/
  diff : F32
  /-- ramp position -/
  ramp : F32
  /-- set while the ramp has not reached 1 -/
  dirty : Bool
  deriving DecidableEq, Repr

/-- The two-sample history of a biquad or tilt filter (R55). -/
structure Hist2 where
  s1 : F32
  s2 : F32
  deriving DecidableEq, Repr

/-- The one-sample history of a one-pole filter (R55). -/
structure Hist1 where
  s1 : F32
  deriving DecidableEq, Repr

/-- A biquad or tilt coefficient set (R55). -/
structure BqCoef where
  b0 : F32
  b1 : F32
  b2 : F32
  a1 : F32
  a2 : F32
  deriving DecidableEq, Repr

/-- A one-pole coefficient set (R55). -/
structure OpCoef where
  b0 : F32
  b1 : F32
  a1 : F32
  deriving DecidableEq, Repr

/-- The elements of one delay line: element index and value, for the elements that are not `+0.0`, indices rising (R100,
R102). The smallest thing a delay-line access moves is one f32 element (R106, R107). -/
abbrev Memory := List (Nat × F32)

/-- A delay line: its elements and its write index (R340). -/
structure Line where
  mem : Memory
  w : Nat
  deriving DecidableEq, Repr

/-- The oscillator fields of one module of a slot (R44). -/
structure Osc where
  /-- phase, in cycles -/
  p : F32
  /-- phase increment per tick -/
  inc : F32
  /-- base frequency in Hz -/
  f0 : F32
  /-- LCG state -/
  s : U32
  /-- last pseudo-random value -/
  r : F32
  /-- history of the chirp one-pole filter -/
  chirp : Hist1
  deriving DecidableEq, Repr

/-- The comb of one module of a slot: its line and its all-pass history (R46). -/
structure Comb where
  line : Line
  ap : Hist2
  deriving DecidableEq, Repr

/-- The assignment tag of a slot (R43). -/
inductive Tag where
  | free
  | assigned
  deriving DecidableEq, Repr

/-- A voice slot (R42 to R46, R49); `none` is NIL. -/
structure Slot where
  tag : Tag
  pitch : Seven
  vel : F32
  next : Option Nat
  prev : Option Nat
  osc : PerModule Osc
  selfMix : PerModule F32
  crossMix : PerModule F32
  comb : PerModule Comb
  /-- comb delay in samples, shared by the slot's two combs (R46, R360) -/
  combD : F32
  deriving DecidableEq, Repr

/-- The two allocation lists (R49, R160). -/
inductive ListName where
  | asg
  | rel
  deriving DecidableEq, Repr

/-- The registers of one allocation list: oldest slot, youngest slot, length (R49). -/
structure ListRegs where
  head : Option Nat
  tail : Option Nat
  count : Nat
  deriving DecidableEq, Repr

/-- The names of the ramped registers that modules A and B each have (R53, ids 0..12 and 13..25 without the chirps). -/
inductive ModReg where
  | fluct
  | pmSelf
  | pmCross
  | pmSelfShp
  | pmCrossShp
  | drive
  | fold
  | asym
  | mainMix
  | ring
  | level
  | pan
  deriving DecidableEq, Repr

/-- The names of the forty ramped registers (R53; id 44 is the two registers `echoDry` and `echoWet`). -/
inductive RampReg where
  | mod (x : Module) (r : ModReg)
  | keypan
  | mixDrive
  | mixFold
  | mixAsym
  | mixLevel
  | cabDrive
  | cabFold
  | cabAsym
  | cabMix
  | cabLevel
  | echoFb
  | echoXfb
  | echoDry
  | echoWet
  | combMix
  | combDecay
  deriving DecidableEq, Repr

/-- The ramped registers of one module (R53). -/
structure ModRamps where
  fluct : Ramp
  pmSelf : Ramp
  pmCross : Ramp
  pmSelfShp : Ramp
  pmCrossShp : Ramp
  drive : Ramp
  fold : Ramp
  asym : Ramp
  mainMix : Ramp
  ring : Ramp
  level : Ramp
  pan : Ramp
  deriving DecidableEq, Repr

/-- The parameter register file `P` (R53): the ramped registers, then the unramped ones (R52). -/
structure Params where
  mods : PerModule ModRamps
  keypan : Ramp
  mixDrive : Ramp
  mixFold : Ramp
  mixAsym : Ramp
  mixLevel : Ramp
  cabDrive : Ramp
  cabFold : Ramp
  cabAsym : Ramp
  cabMix : Ramp
  cabLevel : Ramp
  echoFb : Ramp
  echoXfb : Ramp
  echoDry : Ramp
  echoWet : Ramp
  combMix : Ramp
  combDecay : Ramp
  /-- `A_CHIRP` and `B_CHIRP`, Hz -/
  chirp : PerModule F32
  cabLocut : F32
  cabHicut : F32
  cabTilt : F32
  echoTime : F32
  echoStereo : F32
  echoHicut : F32
  combAp : F32
  combApRes : F32
  combKt : F32
  ufEnable : Bool
  /-- the type counter, LP = 0, HP = 1, LS = 2, HS = 3, which wraps mod 4 (R16, R455) -/
  ufType : BitVec 2
  ufCutoff : F32
  ufRes : F32
  ufShelf : F32
  deriving DecidableEq, Repr

/-- The five cabinet biquad sets (R322). -/
structure CabCoefs where
  hp : BqCoef
  t1 : BqCoef
  t2 : BqCoef
  lp1 : BqCoef
  lp2 : BqCoef
  deriving DecidableEq, Repr

/-- The shared coefficient registers of the filter instances (R41, R55). -/
structure Coefs where
  chirp : PerModule OpCoef
  combAp : BqCoef
  mixHp : OpCoef
  cab : CabCoefs
  cabH30 : OpCoef
  echoLp : OpCoef
  echoHp : OpCoef
  uf : BqCoef
  deriving DecidableEq, Repr

/-- The cabinet histories of one channel (R57). -/
structure CabChan where
  hp : Hist2
  t1 : Hist2
  h30 : Hist1
  t2 : Hist2
  lp1 : Hist2
  lp2 : Hist2
  deriving DecidableEq, Repr

/-- The echo state of one channel (R58). -/
structure EchoChan where
  line : Line
  /-- smoothed delay in samples -/
  d : F32
  /-- the high-pass output of the previous tick -/
  hist : F32
  lp : Hist1
  hp : Hist1
  deriving DecidableEq, Repr

/-- The bus-level DSP state (R56 to R59). -/
structure Bus where
  mixHp : PerChannel Hist1
  cab : PerChannel CabChan
  echo : PerChannel EchoChan
  uf : PerChannel Hist2
  deriving DecidableEq, Repr

/-- Read a ramped register of a module by name. -/
def ModRamps.get (m : ModRamps) : ModReg → Ramp
  | .fluct => m.fluct
  | .pmSelf => m.pmSelf
  | .pmCross => m.pmCross
  | .pmSelfShp => m.pmSelfShp
  | .pmCrossShp => m.pmCrossShp
  | .drive => m.drive
  | .fold => m.fold
  | .asym => m.asym
  | .mainMix => m.mainMix
  | .ring => m.ring
  | .level => m.level
  | .pan => m.pan

/-- Write a ramped register of a module by name. -/
def ModRamps.set (m : ModRamps) (x : Ramp) : ModReg → ModRamps
  | .fluct => { m with fluct := x }
  | .pmSelf => { m with pmSelf := x }
  | .pmCross => { m with pmCross := x }
  | .pmSelfShp => { m with pmSelfShp := x }
  | .pmCrossShp => { m with pmCrossShp := x }
  | .drive => { m with drive := x }
  | .fold => { m with fold := x }
  | .asym => { m with asym := x }
  | .mainMix => { m with mainMix := x }
  | .ring => { m with ring := x }
  | .level => { m with level := x }
  | .pan => { m with pan := x }

/-- Read a ramped register by name. -/
def Params.ramp (p : Params) : RampReg → Ramp
  | .mod x r => (p.mods.get x).get r
  | .keypan => p.keypan
  | .mixDrive => p.mixDrive
  | .mixFold => p.mixFold
  | .mixAsym => p.mixAsym
  | .mixLevel => p.mixLevel
  | .cabDrive => p.cabDrive
  | .cabFold => p.cabFold
  | .cabAsym => p.cabAsym
  | .cabMix => p.cabMix
  | .cabLevel => p.cabLevel
  | .echoFb => p.echoFb
  | .echoXfb => p.echoXfb
  | .echoDry => p.echoDry
  | .echoWet => p.echoWet
  | .combMix => p.combMix
  | .combDecay => p.combDecay

/-- Write a ramped register by name. -/
def Params.setRamp (p : Params) (v : Ramp) : RampReg → Params
  | .mod x r => { p with mods := p.mods.set ((p.mods.get x).set v r) x }
  | .keypan => { p with keypan := v }
  | .mixDrive => { p with mixDrive := v }
  | .mixFold => { p with mixFold := v }
  | .mixAsym => { p with mixAsym := v }
  | .mixLevel => { p with mixLevel := v }
  | .cabDrive => { p with cabDrive := v }
  | .cabFold => { p with cabFold := v }
  | .cabAsym => { p with cabAsym := v }
  | .cabMix => { p with cabMix := v }
  | .cabLevel => { p with cabLevel := v }
  | .echoFb => { p with echoFb := v }
  | .echoXfb => { p with echoXfb := v }
  | .echoDry => { p with echoDry := v }
  | .echoWet => { p with echoWet := v }
  | .combMix => { p with combMix := v }
  | .combDecay => { p with combDecay := v }

/-- Apply a function to every ramped register of a module. -/
def ModRamps.mapRamps (f : Ramp → Ramp) (m : ModRamps) : ModRamps where
  fluct := f m.fluct
  pmSelf := f m.pmSelf
  pmCross := f m.pmCross
  pmSelfShp := f m.pmSelfShp
  pmCrossShp := f m.pmCrossShp
  drive := f m.drive
  fold := f m.fold
  asym := f m.asym
  mainMix := f m.mainMix
  ring := f m.ring
  level := f m.level
  pan := f m.pan

/-- Apply a function to every ramped register (R170 step 1; the order is irrelevant). -/
def Params.mapRamps (f : Ramp → Ramp) (p : Params) : Params :=
  { p with
    mods := ⟨p.mods.a.mapRamps f, p.mods.b.mapRamps f⟩
    keypan := f p.keypan
    mixDrive := f p.mixDrive
    mixFold := f p.mixFold
    mixAsym := f p.mixAsym
    mixLevel := f p.mixLevel
    cabDrive := f p.cabDrive
    cabFold := f p.cabFold
    cabAsym := f p.cabAsym
    cabMix := f p.cabMix
    cabLevel := f p.cabLevel
    echoFb := f p.echoFb
    echoXfb := f p.echoXfb
    echoDry := f p.echoDry
    echoWet := f p.echoWet
    combMix := f p.combMix
    combDecay := f p.combDecay }

end Sys2Proof
end

