-- ==== Sys2Proof/Machine/Filters.lean ====
section
/-! DEFINITION. The polynomial sines and the filter primitives: coefficient recipes and ticks of the biquad, the tilt
and the one-pole filter (file `42_filters.md`). Every expression is evaluated in the order its rule parenthesises it. -/

namespace Sys2Proof

/-- `SC5_C1 = rnd(pi/2)` (R212). -/
def sc5c1 : F32 := lit 0x3FC90FDB
/-- `SC5_C3 = rnd(2.5 - pi)` (R212). -/
def sc5c3 : F32 := lit 0xBF243F6B
/-- `SC5_C5 = rnd(pi/2 - 1.5)` (R212). -/
def sc5c5 : F32 := lit 0x3D90FDAA

/-- `fold_quarter(x)` (R210). -/
def foldQuarter (x : F32) : F32 :=
  let u := x.sub (x.add F32.half).floor
  if u.gt F32.quarter then F32.half.sub u
  else if u.lt F32.quarter.neg then F32.half.neg.sub u
  else u

/-- `sin3(x)`, the cubic sine of an argument in cycles (R211). -/
def sin3 (x : F32) : F32 :=
  let t := (lit 0x40800000).mul (foldQuarter x)
  t.mul ((lit 0x3FC00000).sub (F32.half.mul (t.mul t)))

/-- `sin5(x)`, the quintic sine of an argument in cycles (R213). -/
def sin5 (x : F32) : F32 :=
  let t := (lit 0x40800000).mul (foldQuarter x)
  let t2 := t.mul t
  t.mul (sc5c1.add (t2.mul (sc5c3.add (t2.mul sc5c5))))

/-- `cos5(x) = sin5(x + 0.25)` (R214). -/
def cos5 (x : F32) : F32 := sin5 (x.add F32.quarter)

/-- The biquad types (R217). -/
inductive BqType where
  | lp
  | hp
  | ls
  | hs
  | ap
  deriving DecidableEq, Repr

/-- The type the utility filter's counter stands for: LP = 0, HP = 1, LS = 2, HS = 3 (R455). -/
def ufBqType (k : BitVec 2) : BqType :=
  if k = 0 then .lp else if k = 1 then .hp else if k = 2 then .ls else .hs

/-- A coefficient set divided by `a0` (R218). -/
def normalise (b0 b1 b2 a0 a1 a2 : F32) : BqCoef where
  b0 := b0.div a0
  b1 := b1.div a0
  b2 := b2.div a0
  a1 := a1.div a0
  a2 := a2.div a0

/-- The low-shelf set of `shelf(LS, c, alpha, A)`, normalised (R220). -/
def lowShelf (c alpha gain : F32) : BqCoef :=
  let beta := (F32.two.mul gain.sqrt).mul alpha
  let ap1 := gain.add F32.one
  let am1 := gain.sub F32.one
  let ap1c := ap1.mul c
  let am1c := am1.mul c
  normalise
    (gain.mul ((ap1.sub am1c).add beta))
    ((F32.two.mul gain).mul (am1.sub ap1c))
    (gain.mul ((ap1.sub am1c).sub beta))
    ((ap1.add am1c).add beta)
    (F32.two.neg.mul (am1.add ap1c))
    ((ap1.add am1c).sub beta)

/-- The high-shelf set of `shelf(HS, c, alpha, A)`, normalised (R220). -/
def highShelf (c alpha gain : F32) : BqCoef :=
  let beta := (F32.two.mul gain.sqrt).mul alpha
  let ap1 := gain.add F32.one
  let am1 := gain.sub F32.one
  let ap1c := ap1.mul c
  let am1c := am1.mul c
  normalise
    (gain.mul ((ap1.add am1c).add beta))
    ((F32.two.neg.mul gain).mul (am1.add ap1c))
    (gain.mul ((ap1.add am1c).sub beta))
    ((ap1.sub am1c).add beta)
    (F32.two.mul (am1.sub ap1c))
    ((ap1.sub am1c).sub beta)

/-- The cutoff of a biquad or tilt in cycles per sample, clamped before the warp (R217, R222). -/
def bqWarp (cfg : Config) (fc : F32) : F32 := (fc.clamp (bqLo cfg) (bqHi cfg)).div cfg.fs

/-- `alpha` of `bq_common`, from the warped cutoff and the clamped resonance (R217, R223). -/
def bqAlpha (u res : F32) : F32 := (sin5 u).mul (F32.one.sub (res.clamp resBound.neg resBound))

/-- `bq_coeffs(type, fc, res, db)` (R218). -/
def bqCoeffs (cfg : Config) (kind : BqType) (fc res db : F32) : BqCoef :=
  let u := bqWarp cfg fc
  let c := cos5 u
  let alpha := bqAlpha u res
  let a0 := F32.one.add alpha
  let a1 := F32.two.neg.mul c
  let a2 := F32.one.sub alpha
  match kind with
  | .lp =>
    let k := F32.one.sub c
    normalise (k.mul F32.half) k (k.mul F32.half) a0 a1 a2
  | .hp =>
    let k := F32.one.add c
    normalise (k.mul F32.half) k.neg (k.mul F32.half) a0 a1 a2
  | .ap => normalise a2 a1 a0 a0 a1 a2
  | .ls => lowShelf c alpha (gain40 db)
  | .hs => highShelf c alpha (gain40 db)

/-- `tilt_coeffs(fc, db, S)` (R221). -/
def tiltCoeffs (cfg : Config) (fc db slope : F32) : BqCoef :=
  let u := bqWarp cfg fc
  let gain := gain40 db
  let s := slope.clamp (lit 0x3A83126F) F32.one
  let root := (((gain.add (F32.one.div gain)).mul ((F32.one.div s).sub F32.one)).add F32.two).sqrt
  lowShelf (cos5 u) (((sin5 u).mul F32.half).mul root) gain

/-- `bq_tick(h, x)`: the output and the new history (R219). -/
def bqTick (dnc : F32) (k : BqCoef) (h : Hist2) (x : F32) : F32 × Hist2 :=
  let x' := x.add dnc
  let y := (k.b0.mul x').add h.s1
  (y, { s1 := ((k.b1.mul x').sub (k.a1.mul y)).add h.s2, s2 := (k.b2.mul x').sub (k.a2.mul y) })

/-- The one-pole types (R230). -/
inductive OpType where
  | lp
  | hp
  | ls
  | hs
  deriving DecidableEq, Repr

/-- The prewarped `K` of `op_common` (R231). -/
def opWarp (cfg : Config) (fc : F32) : F32 :=
  let h := ((fc.clamp (opLo cfg) (opHi cfg)).div cfg.fs).mul F32.half
  (sin5 h).div (cos5 h)

/-- One-pole coefficients by type; `db` is the shelf gain, read by the shelves only (R231 to R235, R238). -/
def opCoeffs (cfg : Config) (kind : OpType) (fc db : F32) : OpCoef :=
  let k := opWarp cfg fc
  let d := F32.one.add k
  let a1 := (k.sub F32.one).div d
  match kind with
  | .lp => { b0 := k.div d, b1 := k.div d, a1 := a1 }
  | .hp => { b0 := F32.one.div d, b1 := (F32.one.div d).neg, a1 := a1 }
  | .ls =>
    let gk := (gain20 db).mul k
    { b0 := (F32.one.add gk).div d, b1 := (gk.sub F32.one).div d, a1 := a1 }
  | .hs => { b0 := ((gain20 db).add k).div d, b1 := (k.sub (gain20 db)).div d, a1 := a1 }

/-- The one-pole low-pass set at a cutoff (R232). -/
def opLowPass (cfg : Config) (fc : F32) : OpCoef := opCoeffs cfg .lp fc F32.zero

/-- The one-pole high-pass set at a cutoff (R233). -/
def opHighPass (cfg : Config) (fc : F32) : OpCoef := opCoeffs cfg .hp fc F32.zero

/-- `op_tick(h, x)`: the output and the new history (R241). For an infinite input the pseudocode gives an infinite output, and
a history that is infinite where `a1 < 0` and NaN elsewhere. The prose of R257 says of the chirp filter that both become NaN.
The two disagree, and the model follows the pseudocode (DEDUCED, log 17). -/
def opTick (dnc : F32) (k : OpCoef) (h : Hist1) (x : F32) : F32 × Hist1 :=
  let x' := x.add dnc
  let y := (k.b0.mul x').add h.s1
  (y, { s1 := (k.b1.mul x').sub (k.a1.mul y) })

/-- The history a reset or a type change leaves (R55, R216). -/
def Hist2.clear : Hist2 := { s1 := F32.zero, s2 := F32.zero }

/-- The one-sample history a reset leaves (R55, R237). -/
def Hist1.clear : Hist1 := { s1 := F32.zero }

/-- The five cabinet biquad sets, from the three unramped cabinet parameters (R322). -/
def cabCoeffs (cfg : Config) (locut hicut tilt : F32) : CabCoefs where
  hp := bqCoeffs cfg .hp locut F32.zero F32.zero
  t1 := tiltCoeffs cfg (lit 0x44960000) tilt F32.one
  t2 := tiltCoeffs cfg (lit 0x44960000) tilt.neg F32.one
  lp1 := bqCoeffs cfg .lp hicut F32.zero F32.zero
  lp2 := bqCoeffs cfg .lp (hicut.mul (lit 0x3FAA9FBE)) F32.zero F32.zero

/-- The comb all-pass set (R364). -/
def combApCoeffs (cfg : Config) (fc res : F32) : BqCoef := bqCoeffs cfg .ap fc res F32.zero

/-- The utility-filter set (R370). -/
def ufCoeffs (cfg : Config) (kind : BitVec 2) (fc res db : F32) : BqCoef := bqCoeffs cfg (ufBqType kind) fc res db

end Sys2Proof
end

