-- ==== Sys2Proof/Machine/Delay.lean ====
section
/-! DEFINITION. The delay-line memory, its two primitives `DL_read` and `DL_write`, and the comb built on them
(R340 to R344, R360 to R366). -/

namespace Sys2Proof

/-- What an element reads as that the memory does not list: `+0.0`, the value RESET stores (R46, R58, R490). -/
def Memory.unlisted : F32 := F32.zero

/-- The element at an index. -/
def Memory.read : Memory → Nat → F32
  | [], _ => Memory.unlisted
  | (i, x) :: rest, k => if i = k then x else Memory.read rest k

/-- Store one element, keeping the indices rising and no element listed that reads the same unlisted. -/
def Memory.write : Memory → Nat → F32 → Memory
  | [], k, x => if x = Memory.unlisted then [] else [(k, x)]
  | (i, y) :: rest, k, x =>
    if k < i then (if x = Memory.unlisted then (i, y) :: rest else (k, x) :: (i, y) :: rest)
    else if k = i then (if x = Memory.unlisted then rest else (k, x) :: rest)
    else (i, y) :: Memory.write rest k x

/-- The canonical form above a bound: indices rising from `lo`, each below `size`, and no unlisted value listed. -/
def Memory.wfFrom (size : Nat) : Nat → Memory → Bool
  | _, [] => true
  | lo, (i, x) :: rest =>
    decide (lo ≤ i) && decide (i < size) && decide (x ≠ Memory.unlisted) && Memory.wfFrom size (i + 1) rest

/-- The canonical form of a line of `size` elements. -/
def Memory.wf (size : Nat) (m : Memory) : Bool := Memory.wfFrom size 0 m

/-- A line of `size` elements in canonical form with its write index in range (R340). -/
def Line.wf (size : Nat) (l : Line) : Bool := decide (l.w < size) && Memory.wf size l.mem

/-- The line RESET leaves: every element `+0.0`, write index 0 (R46, R58). -/
def Line.clear : Line := { mem := [], w := 0 }

/-- The index of tap `k`: `(w - k) mod SIZE` (R340). -/
def tapIndex (size w k : Nat) : Nat := (((w : Int) - (k : Int)) % (size : Int)).toNat

/-- `tap(k)`, the sample written `k` writes ago (R340). -/
def Line.tap (size : Nat) (l : Line) (k : Nat) : F32 := Memory.read l.mem (tapIndex size l.w k)

/-- `interp(s0, s1, s2, s3, fr)`, the cubic interpolation (R342), as its pseudocode evaluates it. R342's prose says that
`fr = 0` gives `s1` exactly when every tap is finite; the pseudocode gives NaN where a product of the taps' differences
overflows, and `+0.0` for some `s1 = -0.0` (DEDUCED, log 19). -/
def interp (s0 s1 s2 s3 fr : F32) : F32 :=
  let a := F32.half.mul (s2.sub s0)
  let b := F32.half.mul (s3.sub s1)
  let c := s1.sub s2
  let f2 := fr.mul fr
  let f3 := f2.mul fr
  let k3 := (a.add b).add (F32.two.mul c)
  let k2 := ((F32.two.mul a).add b).add ((lit 0x40400000).mul c)
  ((s1.add (fr.mul a)).add (f3.mul k3)).sub (f2.mul k2)

/-- The delay a line of `size` elements is read at: clamped to `[2, SIZE - 2]` (R341). -/
def clampDelay (size : Nat) (d : F32) : F32 := d.clamp F32.two (F32.ofNat (size - 2))

/-- `DL_read(line, D)` (R341). -/
def dlRead (size : Nat) (l : Line) (d : F32) : F32 :=
  let d' := clampDelay size d
  let i := d'.floor.toNat
  interp (l.tap size (i - 1)) (l.tap size i) (l.tap size (i + 1)) (l.tap size (i + 2)) (d'.sub (F32.ofNat i))

/-- `DL_write(line, x)` (R343). -/
def dlWrite (size : Nat) (l : Line) (x : F32) : Line where
  mem := Memory.write l.mem l.w x
  w := (l.w + 1) % size

/-- `note` of `comb_delay(p)`: key tracking between the pitch and the fixed note 60 (R362). -/
def trackedNote (kt : F32) (p : Seven) : F32 :=
  (kt.mul (F32.ofNat p.toNat)).add ((F32.one.sub kt).mul (lit 0x42700000))

/-- `comb_delay(p)` under the key tracking `kt` (R362). -/
def combDelay (cfg : Config) (kt : F32) (p : Seven) : F32 := notePeriod cfg (trackedNote kt p)

/-- `comb_tick(v, X, x)`: the output and the comb after it (R363). R365's prose has `w` finite; where the sum overflows it is
not, and a dry comb then gives NaN, as the pseudocode says (DEDUCED, log 20). -/
def combTick (cfg : Config) (apSet : BqCoef) (decay mx d : F32) (c : Comb) (x : F32) : F32 × Comb :=
  let ap := bqTick cfg.dnc apSet c.ap (dlRead cfg.combBuf c.line d)
  let w := x.add (decay.mul ap.1)
  (((F32.one.sub mx).mul x).add (mx.mul w), { line := dlWrite cfg.combBuf c.line w, ap := ap.2 })

end Sys2Proof
end

