-- ==== Sys2Proof/Machine/Shaper.lean ====
section
/-! DEFINITION. The sine shaper with folding and asymmetry, its cabinet variant, and the bipolar crossfade
(file `44_shaper.md`, R280, R323). -/

namespace Sys2Proof

/-- The folded sample: `sin3` of the control sample, folded past the thresholds (R271, R273). A finite `x` whose product with
the drive overflows gives NaN (R277), which the range of R275 leaves out (DEDUCED, log 20). -/
def shaperFold (x drive fold : F32) : F32 :=
  let ctrl := (x.mul drive).mul F32.quarter
  let y := sin3 ctrl
  if ctrl.lt F32.quarter.neg then ((y.add F32.one).mul fold).sub F32.one
  else if ctrl.gt F32.quarter then ((y.sub F32.one).mul fold).add F32.one
  else y

/-- The blend of the folded sample with the asymmetry term (R271). -/
def asymBlend (asym y term : F32) : F32 := ((F32.one.sub asym).mul y).add ((F32.two.mul asym).mul term)

/-- `shaper(x, drive, fold, asym)` (R271). -/
def shaper (x drive fold asym : F32) : F32 :=
  let y := shaperFold x drive fold
  asymBlend asym y ((y.mul y).sub F32.half)

/-- `shaper_cab(c, t)`: drive 1, the 30 Hz high-pass of the squared sample as the asymmetry term (R274, R323). -/
def shaperCab (dnc : F32) (h30Set : OpCoef) (h30 : Hist1) (t fold asym : F32) : F32 × Hist1 :=
  let y := shaperFold t F32.one fold
  let term := opTick dnc h30Set h30 (y.mul y)
  (asymBlend asym y term.1, term.2)

/-- `bxf(a, b, m)`, the bipolar crossfade (R280). -/
def bxf (a b m : F32) : F32 := ((F32.one.sub m.abs).mul a).add (m.mul b)

end Sys2Proof
end

