-- ==== Sys2Proof/Machine/BusStages.lean ====
section
/-! DEFINITION. The bus stages, once per TICK on the summed stereo pair: the output mixer's post stage, the cabinet, the
echo and the utility filter (files `46_outputmixer.md`, `47_cabinet.md`, `48_echo_delay_comb.md`). -/

namespace Sys2Proof

/-- The gain of the post stage, `MIX_LEVEL^2 * f32(0.64)` (R303). -/
def mixGain (P : Params) : F32 := (P.mixLevel.cur.mul P.mixLevel.cur).mul (lit 0x3F23D70A)

/-- One channel of `mix_post` (R303, R304). -/
def mixPostTick (cfg : Config) (P : Params) (C : Coefs) (h : Hist1) (x : F32) : F32 × Hist1 :=
  let y := opTick cfg.dnc C.mixHp h (shaper x P.mixDrive.cur P.mixFold.cur P.mixAsym.cur)
  (y.1.mul (mixGain P), y.2)

/-- `cab_tick(c, x)` (R321), each operation rounded as R12 says. R325's prose has no finite input make the wet signal
non-finite. A finite input large enough overflows at the drive all the same, and the output is then NaN: the model follows the
pseudocode (DEDUCED, log 20). -/
def cabTick (cfg : Config) (P : Params) (C : Coefs) (h : CabChan) (x : F32) : F32 × CabChan :=
  let hp := bqTick cfg.dnc C.cab.hp h.hp (x.mul P.cabDrive.cur)
  let t1 := bqTick cfg.dnc C.cab.t1 h.t1 hp.1
  let y := shaperCab cfg.dnc C.cabH30 h.h30 t1.1 P.cabFold.cur P.cabAsym.cur
  let t2 := bqTick cfg.dnc C.cab.t2 h.t2 y.1
  let l1 := bqTick cfg.dnc C.cab.lp1 h.lp1 t2.1
  let l2 := bqTick cfg.dnc C.cab.lp2 h.lp2 l1.1
  (((F32.one.sub P.cabMix.cur).mul x).add (P.cabMix.cur.mul (l2.1.mul P.cabLevel.cur)),
   { hp := hp.2, t1 := t1.2, h30 := y.2, t2 := t2.2, lp1 := l1.2, lp2 := l2.2 })

/-- One target of `echo_targets()`: a time in seconds as a delay in samples, clamped (R351). -/
def echoTarget (cfg : Config) (t : F32) : F32 := clampDelay cfg.echoBuf (t.mul cfg.fs)

/-- `echo_targets()` (R351). -/
def echoTargets (cfg : Config) (time stereo : F32) : PerChannel F32 where
  l := echoTarget cfg (time.mul (F32.one.add (F32.half.mul stereo)))
  r := echoTarget cfg (time.mul (F32.one.sub (F32.half.mul stereo)))

/-- The smoothed delay after one TICK (R350, R351). -/
def glideDelay (cfg : Config) (d target : F32) : F32 := d.add ((echoW cfg).mul (target.sub d))

/-- One channel of `echo` (R350): `x` is its input, `own` and `other` the two channels' old histories, `target` its
delay target. -/
def echoChanTick (cfg : Config) (P : Params) (C : Coefs) (e : EchoChan) (x own other target : F32) : F32 × EchoChan :=
  let d := glideDelay cfg e.d target
  let input := (x.add (own.mul P.echoFb.cur)).add (other.mul P.echoXfb.cur)
  let lp := opTick cfg.dnc C.echoLp e.lp (dlRead cfg.echoBuf e.line d)
  let hp := opTick cfg.dnc C.echoHp e.hp lp.1
  ((P.echoDry.cur.mul x).add (P.echoWet.cur.mul hp.1),
   { line := dlWrite cfg.echoBuf e.line input, d := d, hist := hp.1, lp := lp.2, hp := hp.2 })

/-- `echo(L, R)`: both channels read the histories of the previous TICK (R350). -/
def echoTick (cfg : Config) (P : Params) (C : Coefs) (e : PerChannel EchoChan) (l r : F32) :
    F32 × F32 × PerChannel EchoChan :=
  let targets := echoTargets cfg P.echoTime P.echoStereo
  let yl := echoChanTick cfg P C e.l l e.l.hist e.r.hist targets.l
  let yr := echoChanTick cfg P C e.r r e.r.hist e.l.hist targets.r
  (yl.1, yr.1, ⟨yl.2, yr.2⟩)

/-- The last stage: `uf_tick` when `UF_ENABLE` is set, and otherwise nothing, the histories held (R170, R370). -/
def ufStage (cfg : Config) (P : Params) (C : Coefs) (h : PerChannel Hist2) (l r : F32) : F32 × F32 × PerChannel Hist2 :=
  if P.ufEnable then
    ((bqTick cfg.dnc C.uf h.l l).1, (bqTick cfg.dnc C.uf h.r r).1,
      ⟨(bqTick cfg.dnc C.uf h.l l).2, (bqTick cfg.dnc C.uf h.r r).2⟩)
  else (l, r, h)

/-- Step 4 of TICK: the bus stages in order, once (R170, R171). -/
def busPass (cfg : Config) (P : Params) (C : Coefs) (b : Bus) (l r : F32) : F32 × F32 × Bus :=
  let ml := mixPostTick cfg P C b.mixHp.l l
  let mr := mixPostTick cfg P C b.mixHp.r r
  let cl := cabTick cfg P C b.cab.l ml.1
  let cr := cabTick cfg P C b.cab.r mr.1
  let e := echoTick cfg P C b.echo cl.1 cr.1
  let u := ufStage cfg P C b.uf e.1 e.2.1
  (u.1, u.2.1, { mixHp := ⟨ml.2, mr.2⟩, cab := ⟨cl.2, cr.2⟩, echo := e.2.2, uf := u.2.2 })

end Sys2Proof
end

