-- ==== Sys2Proof/Machine/Smoother.lean ====
section
/-! DEFINITION. The smoother of the ramped parameter registers (file `41_smoother.md`). -/

namespace Sys2Proof

/-- The converged register RESET leaves, holding `x` (R51, R490). -/
def Ramp.settled (x : F32) : Ramp where
  cur := x
  base := x
  target := x
  diff := F32.zero
  ramp := F32.one
  dirty := false

/-- `initRamp(R, t)`: `cur` keeps its value, and the new ramp starts from it (R192). -/
def initRamp (r : Ramp) (t : F32) : Ramp where
  cur := r.cur
  base := r.cur
  target := t
  diff := t.sub r.cur
  ramp := F32.zero
  dirty := true

/-- `advance(R)` with the increment `inc` (R193). -/
def advance (inc : F32) (r : Ramp) : Ramp :=
  if r.dirty then
    if (r.ramp.add inc).ge F32.one then { r with ramp := F32.one, cur := r.target, dirty := false }
    else { r with ramp := r.ramp.add inc, cur := r.base.add (r.diff.mul (r.ramp.add inc)) }
  else r

end Sys2Proof
end

