-- ==== Sys2Proof/Machine/Oscillator.lean ====
section
/-! DEFINITION. The phase-accumulator oscillator, its LCG and its chirp filter (file `43_oscillator.md`). -/

namespace Sys2Proof

/-- `inc_of(o, fluct)` (R253). -/
def incOf (cfg : Config) (o : Osc) (fluct : F32) : F32 := (o.f0.add ((o.r.mul fluct).mul o.f0)).div cfg.fs

/-- The next LCG state (R254). -/
def lcgNext (s : U32) : U32 := 1103515245 * s + 12345

/-- The random value of an LCG state, `f32(int32(s)) * 2^-31` (R255). -/
def lcgValue (s : U32) : F32 := (F32.ofInt s.toInt).mul (lit 0x30000000)

/-- `lcg_step(o)` (R254). -/
def lcgStep (o : Osc) : Osc := { o with s := lcgNext o.s, r := lcgValue (lcgNext o.s) }

/-- The phase after one increment, wrapped into [-0.5, 0.5) (R250, R251). -/
def wrapPhase (pn : F32) : F32 := pn.sub (pn.add F32.half).floor

/-- Whether a phase step is a wrap edge (R252). -/
def isWrapEdge (old new : F32) : Bool := (new.sub old).abs.gt F32.half

/-- `osc_tick(v, X, pm)`: the sample and the oscillator after it (R250). For an infinite `pm` the modulation and the chirp
history are what R241 gives, not the NaN of R257's prose (DEDUCED, log 17); the sample is NaN either way. -/
def oscTick (cfg : Config) (chirpSet : OpCoef) (fluct : F32) (o : Osc) (pm : F32) : F32 × Osc :=
  let m := opTick cfg.dnc chirpSet o.chirp pm
  let p' := wrapPhase (o.p.add o.inc)
  let o' := { o with chirp := m.2, p := p' }
  (sin3 (o.p.add m.1),
    if isWrapEdge o.p p' then { lcgStep o' with inc := incOf cfg (lcgStep o') fluct } else o')

end Sys2Proof
end

