-- ==== Sys2Proof/Machine/Voice.lean ====
section
/-! DEFINITION. What one voice slot does: its pitch, its sound-generator step, and its contribution to the stereo sum
(files `45_soundgenerator.md` and `46_outputmixer.md`, R163). -/

namespace Sys2Proof

/-- One oscillator at the base frequency of pitch `p`, its increment recomputed with its own random value (R163). -/
def Osc.setPitch (cfg : Config) (fluct : F32) (p : Seven) (o : Osc) : Osc :=
  { o with f0 := pitchFreq p, inc := incOf cfg { o with f0 := pitchFreq p } fluct }

/-- `set_pitch(v, p)` on the slot (R163). -/
def Slot.setPitch (cfg : Config) (P : Params) (p : Seven) (v : Slot) : Slot :=
  { v with
    osc := ⟨v.osc.a.setPitch cfg P.mods.a.fluct.cur p, v.osc.b.setPitch cfg P.mods.b.fluct.cur p⟩
    combD := combDelay cfg P.combKt p }

/-- The phase-modulation input of module `x`: its own self mix and the other module's cross mix (R281, R282). -/
def pmInput (P : Params) (v : Slot) (x : Module) : F32 :=
  ((v.selfMix.get x).mul (P.mods.get x).pmSelf.cur).add ((v.crossMix.get x.other).mul (P.mods.get x).pmCross.cur)

/-- One module after its oscillator ran: shaped output from the raw one (R281). -/
def shapedOut (m : ModRamps) (o : F32) : F32 := shaper o m.drive.cur m.fold.cur m.asym.cur

/-- The main-mix output of a module (R281). -/
def mainOut (m : ModRamps) (o : F32) : F32 := bxf o (shapedOut m o) m.mainMix.cur

/-- The ring crossfade of a module's output (R281, R283). -/
def ringOut (m : ModRamps) (out ring : F32) : F32 := ((F32.one.sub m.ring.cur).mul out).add (m.ring.cur.mul ring)

/-- `sg_tick(v)`: the two module outputs and the slot after them (R281). -/
def sgTick (cfg : Config) (P : Params) (C : Coefs) (v : Slot) : F32 × F32 × Slot :=
  let oa := oscTick cfg C.chirp.a P.mods.a.fluct.cur v.osc.a (pmInput P v .a)
  let ob := oscTick cfg C.chirp.b P.mods.b.fluct.cur v.osc.b (pmInput P v .b)
  let ring := (mainOut P.mods.a oa.1).mul (mainOut P.mods.b ob.1)
  (ringOut P.mods.a (mainOut P.mods.a oa.1) ring,
   ringOut P.mods.b (mainOut P.mods.b ob.1) ring,
   { v with
     osc := ⟨oa.2, ob.2⟩
     selfMix := ⟨bxf oa.1 (shapedOut P.mods.a oa.1) P.mods.a.pmSelfShp.cur,
                 bxf ob.1 (shapedOut P.mods.b ob.1) P.mods.b.pmSelfShp.cur⟩
     crossMix := ⟨bxf oa.1 (shapedOut P.mods.a oa.1) P.mods.a.pmCrossShp.cur,
                  bxf ob.1 (shapedOut P.mods.b ob.1) P.mods.b.pmCrossShp.cur⟩ })

/-- `keypan(v)` of a slot's stored pitch (R300). -/
def keypan (amount : F32) (pitch : Seven) : F32 :=
  amount.mul ((F32.ofInt ((pitch.toNat : Int) - 60)).mul (lit 0x3C000000))

/-- The left and right gains of a module under the key pan `kp` (R301). -/
def panGains (m : ModRamps) (kp : F32) : F32 × F32 :=
  let pan := (kp.add m.pan.cur).clamp01
  ((F32.one.sub pan).mul m.level.cur, pan.mul m.level.cur)

/-- `mix_accumulate(v, oA, oB, kp, L, R)` (R301). -/
def mixAccumulate (P : Params) (vel oa ob kp l r : F32) : F32 × F32 :=
  let ga := panGains P.mods.a kp
  let gb := panGains P.mods.b kp
  (l.add (((oa.mul ga.1).add (ob.mul gb.1)).mul vel), r.add (((oa.mul ga.2).add (ob.mul gb.2)).mul vel))

/-- One slot's part of the voice pass (R170 step 3): generator, combs, accumulation. The slot's key pan of step 2 is
computed here from its stored pitch, which no part of the pass changes (R48, R300). -/
def slotTick (cfg : Config) (P : Params) (C : Coefs) (v : Slot) (l r : F32) : Slot × F32 × F32 :=
  let g := sgTick cfg P C v
  let ca := combTick cfg C.combAp P.combDecay.cur P.combMix.cur v.combD v.comb.a g.1
  let cb := combTick cfg C.combAp P.combDecay.cur P.combMix.cur v.combD v.comb.b g.2.1
  let out := mixAccumulate P v.vel ca.1 cb.1 (keypan P.keypan.cur v.pitch) l r
  ({ g.2.2 with comb := ⟨ca.2, cb.2⟩ }, out.1, out.2)

/-- The voice pass: every slot in index order, assigned or released (R168, R170 step 3). -/
def voicePass (cfg : Config) (P : Params) (C : Coefs) : List Slot → F32 → F32 → List Slot × F32 × F32
  | [], l, r => ([], l, r)
  | v :: rest, l, r =>
    let t := slotTick cfg P C v l r
    let u := voicePass cfg P C rest t.2.1 t.2.2
    (t.1 :: u.1, u.2.1, u.2.2)

end Sys2Proof
end

