-- ==== Sys2Proof/Machine/ResetParts.lean ====
section
/-! DEFINITION. The reset value of every part of the state, as R490 and the tables of `10_state.md` give it. -/

namespace Sys2Proof

/-- The reset value of the ramped registers of one module (R53). -/
def resetModRamps : ModRamps where
  fluct := Ramp.settled F32.zero
  pmSelf := Ramp.settled F32.zero
  pmCross := Ramp.settled F32.zero
  pmSelfShp := Ramp.settled F32.zero
  pmCrossShp := Ramp.settled F32.zero
  drive := Ramp.settled F32.one
  fold := Ramp.settled F32.zero
  asym := Ramp.settled F32.zero
  mainMix := Ramp.settled F32.zero
  ring := Ramp.settled F32.zero
  level := Ramp.settled F32.half
  pan := Ramp.settled F32.half

/-- The reset value of the cutoffs that reset to `CUT(127)`, 19930.805 Hz (R53). -/
def resetCutoff : F32 := lit 0x469BB59C

/-- The reset value of the parameter register file (R53, R490). -/
def resetParams : Params where
  mods := ⟨resetModRamps, resetModRamps⟩
  keypan := Ramp.settled F32.zero
  mixDrive := Ramp.settled F32.one
  mixFold := Ramp.settled F32.zero
  mixAsym := Ramp.settled F32.zero
  mixLevel := Ramp.settled F32.one
  cabDrive := Ramp.settled F32.one
  cabFold := Ramp.settled F32.zero
  cabAsym := Ramp.settled F32.zero
  cabMix := Ramp.settled F32.zero
  cabLevel := Ramp.settled F32.one
  echoFb := Ramp.settled F32.zero
  echoXfb := Ramp.settled F32.zero
  echoDry := Ramp.settled F32.one
  echoWet := Ramp.settled F32.zero
  combMix := Ramp.settled F32.zero
  combDecay := Ramp.settled F32.half
  chirp := ⟨resetCutoff, resetCutoff⟩
  cabLocut := lit 0x41A00000
  cabHicut := resetCutoff
  cabTilt := F32.zero
  echoTime := lit 0x3EC00000
  echoStereo := F32.zero
  echoHicut := resetCutoff
  combAp := resetCutoff
  combApRes := F32.zero
  combKt := F32.one
  ufEnable := false
  ufType := 0
  ufCutoff := resetCutoff
  ufRes := F32.zero
  ufShelf := F32.zero

/-- Every coefficient set, computed from the parameters (R55, R490): the three fixed sets are at `HP8_FC`, 30 Hz and
50 Hz (R240). -/
def coefsOf (cfg : Config) (P : Params) : Coefs where
  chirp := ⟨opLowPass cfg P.chirp.a, opLowPass cfg P.chirp.b⟩
  combAp := combApCoeffs cfg P.combAp P.combApRes
  mixHp := opHighPass cfg hp8Freq
  cab := cabCoeffs cfg P.cabLocut P.cabHicut P.cabTilt
  cabH30 := opHighPass cfg (lit 0x41F00000)
  echoLp := opLowPass cfg P.echoHicut
  echoHp := opHighPass cfg (lit 0x42480000)
  uf := ufCoeffs cfg P.ufType P.ufCutoff P.ufRes P.ufShelf

/-- A module's oscillator before `set_pitch` gives it its frequency, with its LCG seed (R44, R490). -/
def resetOsc (seed : Nat) : Osc where
  p := F32.zero
  inc := F32.zero
  f0 := F32.zero
  s := BitVec.ofNat 32 seed
  r := F32.zero
  chirp := Hist1.clear

/-- A comb with every element `+0.0` (R46). -/
def resetComb : Comb where
  line := Line.clear
  ap := Hist2.clear

/-- Slot `v` after RESET (R43 to R46, R50): free, at pitch 60, with `set_pitch(v, 60)` done last (R490). -/
def resetSlot (cfg : Config) (v : Nat) : Slot :=
  Slot.setPitch cfg resetParams 60
    { tag := .free
      pitch := 60
      vel := F32.zero
      next := if v + 1 < cfg.n then some (v + 1) else none
      prev := if v = 0 then none else some (v - 1)
      osc := ⟨resetOsc (2 * v + 1), resetOsc (2 * v + 2)⟩
      selfMix := ⟨F32.zero, F32.zero⟩
      crossMix := ⟨F32.zero, F32.zero⟩
      comb := ⟨resetComb, resetComb⟩
      combD := F32.zero }

/-- The voice pool after RESET (R42, R490). -/
def resetSlots (cfg : Config) : List Slot := (List.range cfg.n).map (resetSlot cfg)

/-- The assigned list after RESET: empty (R50). -/
def resetAsg : ListRegs where
  head := none
  tail := none
  count := 0

/-- The released list after RESET: every slot, 0 oldest (R50). -/
def resetRel (cfg : Config) : ListRegs where
  head := some 0
  tail := some (cfg.n - 1)
  count := cfg.n

/-- One channel of the cabinet after RESET (R57). -/
def resetCabChan : CabChan where
  hp := Hist2.clear
  t1 := Hist2.clear
  h30 := Hist1.clear
  t2 := Hist2.clear
  lp1 := Hist2.clear
  lp2 := Hist2.clear

/-- One channel of the echo after RESET, its delay at the target `d` (R58). -/
def resetEchoChan (d : F32) : EchoChan where
  line := Line.clear
  d := d
  hist := F32.zero
  lp := Hist1.clear
  hp := Hist1.clear

/-- The bus state after RESET (R56 to R59, R490). -/
def resetBus (cfg : Config) : Bus :=
  let targets := echoTargets cfg resetParams.echoTime resetParams.echoStereo
  { mixHp := ⟨Hist1.clear, Hist1.clear⟩
    cab := ⟨resetCabChan, resetCabChan⟩
    echo := ⟨resetEchoChan targets.l, resetEchoChan targets.r⟩
    uf := ⟨Hist2.clear, Hist2.clear⟩ }

end Sys2Proof
end

