-- ==== Sys2Proof/Machine/State.lean ====
section
/-! DEFINITION. The state of NLA-CORE as plain data (file `10_state.md`), the reason types, and the state after
reset. There is no program counter, register file, mode or privilege register (R40). -/

namespace Sys2Proof.Machine

/-- Everything NLA-CORE holds. The fields `slots` to `bus` are the spec's state (R41); `cfg` is the configuration, which
no port word changes (R7, R468); `port`, `out` and `nanDraws` are the model's own. -/
structure State where
  /-- the configuration the instance was elaborated with (R7) -/
  cfg : Config
  /-- the model's own: the port words the host has sent and the block has not taken, in order (R111) -/
  port : List PortWord
  /-- the model's own: the pair `(outL, outR)` the last port word returned, if it returned one (R105, R131) -/
  out : Option (BitVec 32 × BitVec 32)
  /-- the model's own: how many NaN patterns have been drawn (R475) -/
  nanDraws : Nat
  /-- the voice pool `V` (R42) -/
  slots : List Slot
  /-- `asgHead`, `asgTail`, `numAssigned` (R49) -/
  asg : ListRegs
  /-- `relHead`, `relTail`, `numReleased` (R49) -/
  rel : ListRegs
  /-- the parameter register file `P` (R53) -/
  params : Params
  /-- the shared coefficient registers (R55) -/
  coefs : Coefs
  /-- output mixer, cabinet, echo and utility filter (R56 to R59) -/
  bus : Bus
  deriving DecidableEq, Repr

/-- The faults of NLA-CORE: none. Nothing raises one, because no rule has an exception, a trap or a fault (R460); so no
run stops with one, which is neither safe nor unsafe. -/
inductive Fault where
  deriving DecidableEq, Repr

/-- The refusals of NLA-CORE: the elaboration refusal and nothing else (R460). `elaborate` answers in this type. -/
inductive ElaborationRefusal where
  /-- A configuration outside the legal values, raised by `elaborate` and by no step (R474). Safe: the spec refuses it
  too. -/
  | illegalConfiguration
  deriving DecidableEq, Repr

/-- The refusals as the host's interface takes them: those of NLA-CORE, and one constructor that the interface fixes by
name and argument for a model under construction (PRESUMED, log 18). `exec` and `step` have this type because the interface
says so; neither answers with a refusal in any state (R119, R460). -/
inductive Refusal where
  /-- An instruction without a meaning yet, raised by its arm of `exec`. Every instruction has its meaning, so no arm raises
  it and nothing else does. Safe: the model would stop. -/
  | notModelled (mnemonic : String)
  /-- A refusal of NLA-CORE itself (R460). Raised by no step: only elaboration refuses. Safe: the spec refuses it too. -/
  | elaboration (reason : ElaborationRefusal)
  deriving DecidableEq, Repr

/-- The state that elaboration and RESET leave under a configuration (R490, R493), with nothing on the port. -/
def State.resetOf (cfg : Config) : State where
  cfg := cfg
  port := []
  out := none
  nanDraws := 0
  slots := resetSlots cfg
  asg := resetAsg
  rel := resetRel cfg
  params := resetParams
  coefs := coefsOf cfg resetParams
  bus := resetBus cfg

/-- The machine right after reset, under the default configuration (R7, R490, R493). -/
def State.reset : State := State.resetOf Config.default

end Sys2Proof.Machine
end

