-- ==== Sys2Proof/Machine/Ops.lean ====
section
/-! DEFINITION. The named operations over the state that the meanings share: taking a port word, the allocation lists
(R160, R161), the pitch of a slot (R163), starting a ramp (R192), the recomputes of file `49_control_map.md`, and the pair a
TICK returns with its bytes (R104, R105).

Taking an exception and returning from one: NLA-CORE has neither. No rule raises, nothing is saved on any condition, there
is no handler and no return command (R460, R464), so there is no operation for them here. The only way out of a state that
holds non-finite values is RESET, an ordinary port word (`Machine/System.lean`). -/

namespace Sys2Proof.Machine

/-- The state after taking the port word at the front: `rest` stays on the port, and nothing has been returned yet
(R111, R131). -/
def State.taken (s : State) (rest : List PortWord) : State := { s with port := rest, out := none }

/-- The registers of one allocation list (R49). -/
def State.list (s : State) : ListName → ListRegs
  | .asg => s.asg
  | .rel => s.rel

/-- Write the registers of one allocation list (R49). -/
def State.setList (s : State) (x : ListRegs) : ListName → State
  | .asg => { s with asg := x }
  | .rel => { s with rel := x }

/-- Change one slot; a slot index outside the pool changes nothing. -/
def State.modifySlot (s : State) (v : Nat) (f : Slot → Slot) : State := { s with slots := s.slots.modify v f }

/-- `V[p].next <- n` where `p` is a slot, else `L.head <- n` (R160, R161). -/
def State.linkNext (s : State) (l : ListName) (p n : Option Nat) : State :=
  match p with
  | some p => s.modifySlot p fun x => { x with next := n }
  | none => s.setList { s.list l with head := n } l

/-- `V[n].prev <- p` where `n` is a slot, else `L.tail <- p` (R160). -/
def State.linkPrev (s : State) (l : ListName) (n p : Option Nat) : State :=
  match n with
  | some n => s.modifySlot n fun x => { x with prev := p }
  | none => s.setList { s.list l with tail := p } l

/-- `unlink(v, L)` (R160). Both pointers of `v` are read before any is written. -/
def State.unlink (s : State) (l : ListName) (v : Nat) : State :=
  match s.slots[v]? with
  | none => s
  | some x =>
    let t := (s.linkNext l x.prev x.next).linkPrev l x.next x.prev
    (t.setList { t.list l with count := (t.list l).count - 1 } l).modifySlot v
      fun y => { y with prev := none, next := none }

/-- `append(v, L)` (R161). -/
def State.append (s : State) (l : ListName) (v : Nat) : State :=
  let tail := (s.list l).tail
  let t := (s.modifySlot v fun x => { x with prev := tail, next := none }).linkNext l tail (some v)
  t.setList { t.list l with tail := some v, count := (t.list l).count + 1 } l

/-- `set_pitch(v, p)` (R163). -/
def State.setPitch (s : State) (v : Nat) (p : Seven) : State := s.modifySlot v (Slot.setPitch s.cfg s.params p)

/-- `initRamp` of a ramped register by name (R192, R382). -/
def State.startRamp (s : State) (r : RampReg) (t : F32) : State :=
  { s with params := s.params.setRamp (initRamp (s.params.ramp r) t) r }

/-- Write the unramped registers (R52). -/
def State.setParams (s : State) (P : Params) : State := { s with params := P }

/-- Recompute the chirp set of a module, shared by all slots (R256, R401). -/
def State.recomputeChirp (s : State) (x : Module) : State :=
  { s with coefs := { s.coefs with chirp := s.coefs.chirp.set (opLowPass s.cfg (s.params.chirp.get x)) x } }

/-- Recompute the five cabinet biquad sets (R322, R432). -/
def State.recomputeCab (s : State) : State :=
  { s with coefs := { s.coefs with cab := cabCoeffs s.cfg s.params.cabLocut s.params.cabHicut s.params.cabTilt } }

/-- Recompute the echo low-pass set (R352, R443). -/
def State.recomputeEchoLp (s : State) : State :=
  { s with coefs := { s.coefs with echoLp := opLowPass s.cfg s.params.echoHicut } }

/-- Recompute the comb all-pass set, shared by all combs (R364, R447). -/
def State.recomputeCombAp (s : State) : State :=
  { s with coefs := { s.coefs with combAp := combApCoeffs s.cfg s.params.combAp s.params.combApRes } }

/-- Retune the comb delay of every slot, assigned or released (R362, R366, R449). -/
def State.retuneCombs (s : State) : State :=
  { s with slots := s.slots.map fun x => { x with combD := combDelay s.cfg s.params.combKt x.pitch } }

/-- Recompute the utility-filter set (R370, R452). -/
def State.recomputeUf (s : State) : State :=
  { s with coefs := { s.coefs with
      uf := ufCoeffs s.cfg s.params.ufType s.params.ufCutoff s.params.ufRes s.params.ufShelf } }

/-- Zero the utility-filter histories of both channels (R216, R451). -/
def State.clearUf (s : State) : State := { s with bus := { s.bus with uf := ⟨Hist2.clear, Hist2.clear⟩ } }

/-- The slot NOTE_ON takes: the oldest released one, else the oldest assigned one (R164). -/
def State.victim (s : State) : Option Nat := if 0 < s.rel.count then s.rel.head else s.asg.head

/-- The list NOTE_ON takes its slot from (R164). -/
def State.victimList (s : State) : ListName := if 0 < s.rel.count then .rel else .asg

/-- Move slot `v` to the youngest-assigned position and strike the note on it (R164). -/
def State.strike (s : State) (l : ListName) (v : Nat) (pitch vel : Seven) : State :=
  let t := ((s.unlink l v).append .asg v).modifySlot v
    fun x => { x with tag := .assigned, pitch := pitch, vel := mapUni vel }
  (t.setPitch v pitch).modifySlot v
    fun x => { x with osc := ⟨{ x.osc.a with p := F32.zero }, { x.osc.b with p := F32.zero }⟩ }

/-- The lowest-numbered assigned slot that holds a pitch (R166, "first match wins"). -/
def State.firstMatch (s : State) (pitch : Seven) : Option Nat :=
  s.slots.findIdx? fun x => decide (x.tag = .assigned) && decide (x.pitch = pitch)

/-- Move slot `v` to the youngest-released position and silence it (R166). -/
def State.release (s : State) (v : Nat) : State :=
  ((s.unlink .asg v).append .rel v).modifySlot v fun x => { x with tag := .free, vel := F32.zero }

/-- The effect of a key up: release the first matching slot, or nothing (R166). -/
def State.keyUp (s : State) (pitch : Seven) : State :=
  match s.firstMatch pitch with
  | some v => s.release v
  | none => s

/-- The pair a TICK returns, as two binary32 patterns, L first (R105). A NaN's pattern is the next free draw (R475). -/
def State.output (s : State) (l r : F32) : State :=
  { s with
    out := some (l.toBits (Config.nanPattern s.nanDraws), r.toBits (Config.nanPattern (s.nanDraws + 1)))
    nanDraws := s.nanDraws + 2 }

/-- The bytes of the pair the last port word returned, if it returned one: the four of L, then the four of R, each value
least significant byte first (R104, R105). -/
def State.outBytes (s : State) : Option (List Byte) :=
  s.out.map fun p => serialiseSample p.1 ++ serialiseSample p.2

end Sys2Proof.Machine
end

