-- ==== Sys2Proof/Machine/Flags.lean ====
section
/-! DEFINITION. The flags. NLA-CORE has three kinds and no condition-code register: the `.dirty` bit of each ramped
register, the tag of each slot, and `UF_ENABLE` (R54). No instruction sets one as a side effect except as its rule
states, so there is no flag computation apart from the ones below. -/

namespace Sys2Proof.Machine

/-- The flags by name (R54). -/
inductive FlagName where
  | dirty (r : RampReg)
  | assigned (v : Nat)
  | ufEnable
  deriving DecidableEq, Repr

/-- Read a flag; the tag of a slot outside the pool reads as clear. -/
def State.flag (s : State) : FlagName → Bool
  | .dirty r => (s.params.ramp r).dirty
  | .assigned v =>
    match s.slots[v]? with
    | some x => decide (x.tag = .assigned)
    | none => false
  | .ufEnable => s.params.ufEnable

/-- The `.dirty` bit that `initRamp` leaves (R192). -/
def dirtyAfterInit : Bool := true

/-- The `.dirty` bit that `advance` leaves: cleared when the ramp reaches 1 (R193). -/
def dirtyAfterAdvance (inc : F32) (r : Ramp) : Bool := r.dirty && !(r.ramp.add inc).ge F32.one

/-- The `UF_ENABLE` bit that a control value sets (R398, R450). -/
def ufEnableAfterSet (v : Seven) : Bool := mapEnable v

end Sys2Proof.Machine
end

