-- ==== Sys2Proof/Machine/ControlMap.lean ====
section
/-! DEFINITION. The control changes (file `49_control_map.md`): one definition for each `SET_k` of R400 to R454, and
CTRL. A ramped parameter starts a ramp (R192); an unramped one is written at once and then recomputed from (R382). -/

namespace Sys2Proof.Machine

/-- The write of an unramped `P.UF_TYPE` that advances the type, with the history clear and the recompute (R451, R455). -/
def State.advanceUfType (s : State) : State :=
  (s.setParams { s.params with ufType := s.params.ufType + 1 }).clearUf.recomputeUf

/-- `SET A_FLUCT` (R400, R391). -/
def execSetAFluct (v : Seven) (s : State) : Host.Outcome State Fault Refusal :=
  .next (s.startRamp (.mod .a .fluct) (mapFluct v))

/-- `SET A_CHIRP` (R401, R386, R256). -/
def execSetAChirp (v : Seven) (s : State) : Host.Outcome State Fault Refusal :=
  .next ((s.setParams { s.params with chirp := ⟨mapCut v, s.params.chirp.b⟩ }).recomputeChirp .a)

/-- `SET A_PM_SELF` (R402, R383). -/
def execSetAPmSelf (v : Seven) (s : State) : Host.Outcome State Fault Refusal :=
  .next (s.startRamp (.mod .a .pmSelf) (mapUni v))

/-- `SET A_PM_CROSS` (R403, R383). -/
def execSetAPmCross (v : Seven) (s : State) : Host.Outcome State Fault Refusal :=
  .next (s.startRamp (.mod .a .pmCross) (mapUni v))

/-- `SET A_PM_SELF_SHP` (R404, R384). -/
def execSetAPmSelfShp (v : Seven) (s : State) : Host.Outcome State Fault Refusal :=
  .next (s.startRamp (.mod .a .pmSelfShp) (mapBip v))

/-- `SET A_PM_CROSS_SHP` (R405, R384). -/
def execSetAPmCrossShp (v : Seven) (s : State) : Host.Outcome State Fault Refusal :=
  .next (s.startRamp (.mod .a .pmCrossShp) (mapBip v))

/-- `SET A_DRIVE` (R406, R389). -/
def execSetADrive (v : Seven) (s : State) : Host.Outcome State Fault Refusal :=
  .next (s.startRamp (.mod .a .drive) (mapDrive v))

/-- `SET A_FOLD` (R407, R383). -/
def execSetAFold (v : Seven) (s : State) : Host.Outcome State Fault Refusal :=
  .next (s.startRamp (.mod .a .fold) (mapUni v))

/-- `SET A_ASYM` (R408, R383). -/
def execSetAAsym (v : Seven) (s : State) : Host.Outcome State Fault Refusal :=
  .next (s.startRamp (.mod .a .asym) (mapUni v))

/-- `SET A_MAINMIX` (R409, R384). -/
def execSetAMainmix (v : Seven) (s : State) : Host.Outcome State Fault Refusal :=
  .next (s.startRamp (.mod .a .mainMix) (mapBip v))

/-- `SET A_RING` (R410, R383). -/
def execSetARing (v : Seven) (s : State) : Host.Outcome State Fault Refusal :=
  .next (s.startRamp (.mod .a .ring) (mapUni v))

/-- `SET A_LEVEL` (R411, R383). -/
def execSetALevel (v : Seven) (s : State) : Host.Outcome State Fault Refusal :=
  .next (s.startRamp (.mod .a .level) (mapUni v))

/-- `SET A_PAN` (R412, R385). -/
def execSetAPan (v : Seven) (s : State) : Host.Outcome State Fault Refusal :=
  .next (s.startRamp (.mod .a .pan) (mapPan v))

/-- `SET B_FLUCT` (R413, R391). -/
def execSetBFluct (v : Seven) (s : State) : Host.Outcome State Fault Refusal :=
  .next (s.startRamp (.mod .b .fluct) (mapFluct v))

/-- `SET B_CHIRP` (R414, R386, R256). -/
def execSetBChirp (v : Seven) (s : State) : Host.Outcome State Fault Refusal :=
  .next ((s.setParams { s.params with chirp := ⟨s.params.chirp.a, mapCut v⟩ }).recomputeChirp .b)

/-- `SET B_PM_SELF` (R415, R383). -/
def execSetBPmSelf (v : Seven) (s : State) : Host.Outcome State Fault Refusal :=
  .next (s.startRamp (.mod .b .pmSelf) (mapUni v))

/-- `SET B_PM_CROSS` (R416, R383). -/
def execSetBPmCross (v : Seven) (s : State) : Host.Outcome State Fault Refusal :=
  .next (s.startRamp (.mod .b .pmCross) (mapUni v))

/-- `SET B_PM_SELF_SHP` (R417, R384). -/
def execSetBPmSelfShp (v : Seven) (s : State) : Host.Outcome State Fault Refusal :=
  .next (s.startRamp (.mod .b .pmSelfShp) (mapBip v))

/-- `SET B_PM_CROSS_SHP` (R418, R384). -/
def execSetBPmCrossShp (v : Seven) (s : State) : Host.Outcome State Fault Refusal :=
  .next (s.startRamp (.mod .b .pmCrossShp) (mapBip v))

/-- `SET B_DRIVE` (R419, R389). -/
def execSetBDrive (v : Seven) (s : State) : Host.Outcome State Fault Refusal :=
  .next (s.startRamp (.mod .b .drive) (mapDrive v))

/-- `SET B_FOLD` (R420, R383). -/
def execSetBFold (v : Seven) (s : State) : Host.Outcome State Fault Refusal :=
  .next (s.startRamp (.mod .b .fold) (mapUni v))

/-- `SET B_ASYM` (R421, R383). -/
def execSetBAsym (v : Seven) (s : State) : Host.Outcome State Fault Refusal :=
  .next (s.startRamp (.mod .b .asym) (mapUni v))

/-- `SET B_MAINMIX` (R422, R384). -/
def execSetBMainmix (v : Seven) (s : State) : Host.Outcome State Fault Refusal :=
  .next (s.startRamp (.mod .b .mainMix) (mapBip v))

/-- `SET B_RING` (R423, R383). -/
def execSetBRing (v : Seven) (s : State) : Host.Outcome State Fault Refusal :=
  .next (s.startRamp (.mod .b .ring) (mapUni v))

/-- `SET B_LEVEL` (R424, R383). -/
def execSetBLevel (v : Seven) (s : State) : Host.Outcome State Fault Refusal :=
  .next (s.startRamp (.mod .b .level) (mapUni v))

/-- `SET B_PAN` (R425, R385). -/
def execSetBPan (v : Seven) (s : State) : Host.Outcome State Fault Refusal :=
  .next (s.startRamp (.mod .b .pan) (mapPan v))

/-- `SET KEYPAN` (R426, R384). -/
def execSetKeypan (v : Seven) (s : State) : Host.Outcome State Fault Refusal :=
  .next (s.startRamp .keypan (mapBip v))

/-- `SET MIX_DRIVE` (R427, R389). -/
def execSetMixDrive (v : Seven) (s : State) : Host.Outcome State Fault Refusal :=
  .next (s.startRamp .mixDrive (mapDrive v))

/-- `SET MIX_FOLD` (R428, R383). -/
def execSetMixFold (v : Seven) (s : State) : Host.Outcome State Fault Refusal :=
  .next (s.startRamp .mixFold (mapUni v))

/-- `SET MIX_ASYM` (R429, R383). -/
def execSetMixAsym (v : Seven) (s : State) : Host.Outcome State Fault Refusal :=
  .next (s.startRamp .mixAsym (mapUni v))

/-- `SET MIX_LEVEL` (R430, R383). -/
def execSetMixLevel (v : Seven) (s : State) : Host.Outcome State Fault Refusal :=
  .next (s.startRamp .mixLevel (mapUni v))

/-- `SET CAB_DRIVE` (R431, R389). -/
def execSetCabDrive (v : Seven) (s : State) : Host.Outcome State Fault Refusal :=
  .next (s.startRamp .cabDrive (mapDrive v))

/-- `SET CAB_LOCUT` (R432, R386, R322). -/
def execSetCabLocut (v : Seven) (s : State) : Host.Outcome State Fault Refusal :=
  .next ((s.setParams { s.params with cabLocut := mapCut v }).recomputeCab)

/-- `SET CAB_HICUT` (R433, R386, R322). -/
def execSetCabHicut (v : Seven) (s : State) : Host.Outcome State Fault Refusal :=
  .next ((s.setParams { s.params with cabHicut := mapCut v }).recomputeCab)

/-- `SET CAB_TILT` (R434, R390, R322). -/
def execSetCabTilt (v : Seven) (s : State) : Host.Outcome State Fault Refusal :=
  .next ((s.setParams { s.params with cabTilt := mapTilt v }).recomputeCab)

/-- `SET CAB_FOLD` (R435, R383). -/
def execSetCabFold (v : Seven) (s : State) : Host.Outcome State Fault Refusal :=
  .next (s.startRamp .cabFold (mapUni v))

/-- `SET CAB_ASYM` (R436, R383). -/
def execSetCabAsym (v : Seven) (s : State) : Host.Outcome State Fault Refusal :=
  .next (s.startRamp .cabAsym (mapUni v))

/-- `SET CAB_MIX` (R437, R383). -/
def execSetCabMix (v : Seven) (s : State) : Host.Outcome State Fault Refusal :=
  .next (s.startRamp .cabMix (mapUni v))

/-- `SET CAB_LEVEL` (R438, R392). -/
def execSetCabLevel (v : Seven) (s : State) : Host.Outcome State Fault Refusal :=
  .next (s.startRamp .cabLevel (mapCabLevel v))

/-- `SET ECHO_TIME` (R439, R393, R351). -/
def execSetEchoTime (v : Seven) (s : State) : Host.Outcome State Fault Refusal :=
  .next (s.setParams { s.params with echoTime := mapTime v })

/-- `SET ECHO_STEREO` (R440, R384, R351). -/
def execSetEchoStereo (v : Seven) (s : State) : Host.Outcome State Fault Refusal :=
  .next (s.setParams { s.params with echoStereo := mapBip v })

/-- `SET ECHO_FB` (R441, R383). -/
def execSetEchoFb (v : Seven) (s : State) : Host.Outcome State Fault Refusal :=
  .next (s.startRamp .echoFb (mapUni v))

/-- `SET ECHO_XFB` (R442, R383). -/
def execSetEchoXfb (v : Seven) (s : State) : Host.Outcome State Fault Refusal :=
  .next (s.startRamp .echoXfb (mapUni v))

/-- `SET ECHO_HICUT` (R443, R386, R352). -/
def execSetEchoHicut (v : Seven) (s : State) : Host.Outcome State Fault Refusal :=
  .next ((s.setParams { s.params with echoHicut := mapCut v }).recomputeEchoLp)

/-- `SET ECHO_MIX` (R444, R395): both gains start their ramps. -/
def execSetEchoMix (v : Seven) (s : State) : Host.Outcome State Fault Refusal :=
  .next ((s.startRamp .echoDry (mapDry v)).startRamp .echoWet (mapWet v))

/-- `SET COMB_MIX` (R445, R383). -/
def execSetCombMix (v : Seven) (s : State) : Host.Outcome State Fault Refusal :=
  .next (s.startRamp .combMix (mapUni v))

/-- `SET COMB_DECAY` (R446, R394). -/
def execSetCombDecay (v : Seven) (s : State) : Host.Outcome State Fault Refusal :=
  .next (s.startRamp .combDecay (mapDecay v))

/-- `SET COMB_AP` (R447, R386, R364). -/
def execSetCombAp (v : Seven) (s : State) : Host.Outcome State Fault Refusal :=
  .next ((s.setParams { s.params with combAp := mapCut v }).recomputeCombAp)

/-- `SET COMB_AP_RES` (R448, R387, R364). -/
def execSetCombApRes (v : Seven) (s : State) : Host.Outcome State Fault Refusal :=
  .next ((s.setParams { s.params with combApRes := mapRes v }).recomputeCombAp)

/-- `SET COMB_KT` (R449, R383, R362). -/
def execSetCombKt (v : Seven) (s : State) : Host.Outcome State Fault Refusal :=
  .next ((s.setParams { s.params with combKt := mapUni v }).retuneCombs)

/-- `SET UF_ENABLE` (R450, R398). -/
def execSetUfEnable (v : Seven) (s : State) : Host.Outcome State Fault Refusal :=
  .next (s.setParams { s.params with ufEnable := mapEnable v })

/-- `SET UF_TYPE` (R451): any value but 0 advances the type by one; 0 does nothing. -/
def execSetUfType (v : Seven) (s : State) : Host.Outcome State Fault Refusal :=
  .next (if v = 0 then s else s.advanceUfType)

/-- `SET UF_CUTOFF` (R452, R386, R370). -/
def execSetUfCutoff (v : Seven) (s : State) : Host.Outcome State Fault Refusal :=
  .next ((s.setParams { s.params with ufCutoff := mapCut v }).recomputeUf)

/-- `SET UF_RES` (R453, R387, R370). -/
def execSetUfRes (v : Seven) (s : State) : Host.Outcome State Fault Refusal :=
  .next ((s.setParams { s.params with ufRes := mapRes v }).recomputeUf)

/-- `SET UF_SHELF` (R454, R388, R370). -/
def execSetUfShelf (v : Seven) (s : State) : Host.Outcome State Fault Refusal :=
  .next ((s.setParams { s.params with ufShelf := mapShelf v }).recomputeUf)

/-- The meaning of `SET_k(v)` by parameter (R382). -/
def execSetParam (k : Param) (v : Seven) (s : State) : Host.Outcome State Fault Refusal :=
  match k with
  | .aFluct => execSetAFluct v s
  | .aChirp => execSetAChirp v s
  | .aPmSelf => execSetAPmSelf v s
  | .aPmCross => execSetAPmCross v s
  | .aPmSelfShp => execSetAPmSelfShp v s
  | .aPmCrossShp => execSetAPmCrossShp v s
  | .aDrive => execSetADrive v s
  | .aFold => execSetAFold v s
  | .aAsym => execSetAAsym v s
  | .aMainmix => execSetAMainmix v s
  | .aRing => execSetARing v s
  | .aLevel => execSetALevel v s
  | .aPan => execSetAPan v s
  | .bFluct => execSetBFluct v s
  | .bChirp => execSetBChirp v s
  | .bPmSelf => execSetBPmSelf v s
  | .bPmCross => execSetBPmCross v s
  | .bPmSelfShp => execSetBPmSelfShp v s
  | .bPmCrossShp => execSetBPmCrossShp v s
  | .bDrive => execSetBDrive v s
  | .bFold => execSetBFold v s
  | .bAsym => execSetBAsym v s
  | .bMainmix => execSetBMainmix v s
  | .bRing => execSetBRing v s
  | .bLevel => execSetBLevel v s
  | .bPan => execSetBPan v s
  | .keypan => execSetKeypan v s
  | .mixDrive => execSetMixDrive v s
  | .mixFold => execSetMixFold v s
  | .mixAsym => execSetMixAsym v s
  | .mixLevel => execSetMixLevel v s
  | .cabDrive => execSetCabDrive v s
  | .cabLocut => execSetCabLocut v s
  | .cabHicut => execSetCabHicut v s
  | .cabTilt => execSetCabTilt v s
  | .cabFold => execSetCabFold v s
  | .cabAsym => execSetCabAsym v s
  | .cabMix => execSetCabMix v s
  | .cabLevel => execSetCabLevel v s
  | .echoTime => execSetEchoTime v s
  | .echoStereo => execSetEchoStereo v s
  | .echoFb => execSetEchoFb v s
  | .echoXfb => execSetEchoXfb v s
  | .echoHicut => execSetEchoHicut v s
  | .echoMix => execSetEchoMix v s
  | .combMix => execSetCombMix v s
  | .combDecay => execSetCombDecay v s
  | .combAp => execSetCombAp v s
  | .combApRes => execSetCombApRes v s
  | .combKt => execSetCombKt v s
  | .ufEnable => execSetUfEnable v s
  | .ufType => execSetUfType v s
  | .ufCutoff => execSetUfCutoff v s
  | .ufRes => execSetUfRes v s
  | .ufShelf => execSetUfShelf v s

/-- CTRL: look the control ID up and set the parameter it selects; one that selects none is ignored (R382). -/
def execCtrl (id v : Seven) (s : State) : Host.Outcome State Fault Refusal :=
  match s.cfg.paramOf id with
  | some k => execSetParam k v s
  | none => .next s

end Sys2Proof.Machine
end

