-- ==== Sys2Proof/Machine/System.lean ====
section
/-! DEFINITION. RESET (R490), the reserved class and the words that select no command (R137), and elaboration with its
one refusal (R474, R493). -/

namespace Sys2Proof.Machine

/-- RESET: every state element in its reset value, the configuration kept; its payload is ignored (R490). The words still
on the port are the host's, and the model's count of NaN draws goes on. -/
def execReset (_payload : BitVec 24) (s : State) : Host.Outcome State Fault Refusal :=
  .next { State.resetOf s.cfg with port := s.port, out := s.out, nanDraws := s.nanDraws }

/-- The reserved class `OP = 11`: no operation; its payload is ignored (R132, R137). -/
def execReserved (_payload : BitVec 24) (s : State) : Host.Outcome State Fault Refusal := .next s

/-- A port word the decoder rejects: no operation (R136, R137, R461). -/
def ignoreWord (_reason : DecodeError) (s : State) : Host.Outcome State Fault Refusal := .next s

/-- No port word to take: the state stays as it is (R473). -/
def waitForWord (s : State) : Host.Outcome State Fault Refusal := .next s

/-- Elaboration: the reset state of a legal configuration, and a refusal of any other (R474, R493). Its type is the whole of
R460: no fault, and no refusal but this one. -/
def elaborate (cfg : Config) : Host.Outcome State Fault ElaborationRefusal :=
  if cfg.legal then .next (State.resetOf cfg) else .refused .illegalConfiguration

end Sys2Proof.Machine
end

