-- ==== Sys2Proof/Machine/Tick.lean ====
section
/-! DEFINITION. TICK: one stereo sample pair (R170). -/

namespace Sys2Proof.Machine

/-- Step 1 of TICK: every ramped register advances once (R170, R173, R193). -/
def State.advanceRamps (s : State) : State := { s with params := s.params.mapRamps (advance (rampInc s.cfg)) }

/-- Steps 2 to 4 of TICK, on the parameters that step 1 left (R170, R173): the voice pass from a `+0.0` sum, the bus
stages once, and the pair returned. -/
def State.sample (s : State) : State :=
  let voices := voicePass s.cfg s.params s.coefs s.slots F32.zero F32.zero
  let bus := busPass s.cfg s.params s.coefs s.bus voices.2.1 voices.2.2
  ({ s with slots := voices.1, bus := bus.2.2 }).output bus.1 bus.2.1

/-- TICK; its payload is ignored (R132, R170). -/
def execTick (_payload : BitVec 24) (s : State) : Host.Outcome State Fault Refusal := .next s.advanceRamps.sample

end Sys2Proof.Machine
end

