-- ==== Sys2Proof/Machine/VoiceCommands.lean ====
section
/-! DEFINITION. The key commands (file `40_voice_allocator.md`): NOTE_ON, NOTE_ON with velocity 0, and NOTE_OFF. -/

namespace Sys2Proof.Machine

/-- NOTE_ON: take the oldest released slot, or steal the oldest assigned one, and strike the note on it (R164). A list
that counts slots has a head in every state a run reaches (R50); where it has none, nothing changes. -/
def execNoteOn (pitch vel : Seven) (s : State) : Host.Outcome State Fault Refusal :=
  match s.victim with
  | some v => .next (s.strike s.victimList v pitch vel)
  | none => .next s

/-- NOTE_ON with velocity 0 executes as NOTE_OFF (R165). -/
def execNoteOnV0 (pitch : Seven) (s : State) : Host.Outcome State Fault Refusal := .next (s.keyUp pitch)

/-- NOTE_OFF: release the first matching slot; its second operand is ignored (R166). -/
def execNoteOff (pitch _ignored : Seven) (s : State) : Host.Outcome State Fault Refusal := .next (s.keyUp pitch)

end Sys2Proof.Machine
end

