-- ==== Sys2Proof/Machine/Dispatch.lean ====
section
/-! DEFINITION. The dispatch of an instruction to its meaning, one arm per constructor. -/

namespace Sys2Proof.Machine

def exec (i : Instr) (s : State) : Host.Outcome State Fault Refusal :=
  match i with
  | .noteOn pitch vel => Sys2Proof.Machine.execNoteOn pitch vel s
  | .noteOnV0 pitch => Sys2Proof.Machine.execNoteOnV0 pitch s
  | .noteOff pitch ignored => Sys2Proof.Machine.execNoteOff pitch ignored s
  | .setAFluct v => Sys2Proof.Machine.execSetAFluct v s
  | .setAChirp v => Sys2Proof.Machine.execSetAChirp v s
  | .setAPmSelf v => Sys2Proof.Machine.execSetAPmSelf v s
  | .setAPmCross v => Sys2Proof.Machine.execSetAPmCross v s
  | .setAPmSelfShp v => Sys2Proof.Machine.execSetAPmSelfShp v s
  | .setAPmCrossShp v => Sys2Proof.Machine.execSetAPmCrossShp v s
  | .setADrive v => Sys2Proof.Machine.execSetADrive v s
  | .setAFold v => Sys2Proof.Machine.execSetAFold v s
  | .setAAsym v => Sys2Proof.Machine.execSetAAsym v s
  | .setAMainmix v => Sys2Proof.Machine.execSetAMainmix v s
  | .setARing v => Sys2Proof.Machine.execSetARing v s
  | .setALevel v => Sys2Proof.Machine.execSetALevel v s
  | .setAPan v => Sys2Proof.Machine.execSetAPan v s
  | .setBFluct v => Sys2Proof.Machine.execSetBFluct v s
  | .setBChirp v => Sys2Proof.Machine.execSetBChirp v s
  | .setBPmSelf v => Sys2Proof.Machine.execSetBPmSelf v s
  | .setBPmCross v => Sys2Proof.Machine.execSetBPmCross v s
  | .setBPmSelfShp v => Sys2Proof.Machine.execSetBPmSelfShp v s
  | .setBPmCrossShp v => Sys2Proof.Machine.execSetBPmCrossShp v s
  | .setBDrive v => Sys2Proof.Machine.execSetBDrive v s
  | .setBFold v => Sys2Proof.Machine.execSetBFold v s
  | .setBAsym v => Sys2Proof.Machine.execSetBAsym v s
  | .setBMainmix v => Sys2Proof.Machine.execSetBMainmix v s
  | .setBRing v => Sys2Proof.Machine.execSetBRing v s
  | .setBLevel v => Sys2Proof.Machine.execSetBLevel v s
  | .setBPan v => Sys2Proof.Machine.execSetBPan v s
  | .setKeypan v => Sys2Proof.Machine.execSetKeypan v s
  | .setMixDrive v => Sys2Proof.Machine.execSetMixDrive v s
  | .setMixFold v => Sys2Proof.Machine.execSetMixFold v s
  | .setMixAsym v => Sys2Proof.Machine.execSetMixAsym v s
  | .setMixLevel v => Sys2Proof.Machine.execSetMixLevel v s
  | .setCabDrive v => Sys2Proof.Machine.execSetCabDrive v s
  | .setCabLocut v => Sys2Proof.Machine.execSetCabLocut v s
  | .setCabHicut v => Sys2Proof.Machine.execSetCabHicut v s
  | .setCabTilt v => Sys2Proof.Machine.execSetCabTilt v s
  | .setCabFold v => Sys2Proof.Machine.execSetCabFold v s
  | .setCabAsym v => Sys2Proof.Machine.execSetCabAsym v s
  | .setCabMix v => Sys2Proof.Machine.execSetCabMix v s
  | .setCabLevel v => Sys2Proof.Machine.execSetCabLevel v s
  | .setEchoTime v => Sys2Proof.Machine.execSetEchoTime v s
  | .setEchoStereo v => Sys2Proof.Machine.execSetEchoStereo v s
  | .setEchoFb v => Sys2Proof.Machine.execSetEchoFb v s
  | .setEchoXfb v => Sys2Proof.Machine.execSetEchoXfb v s
  | .setEchoHicut v => Sys2Proof.Machine.execSetEchoHicut v s
  | .setEchoMix v => Sys2Proof.Machine.execSetEchoMix v s
  | .setCombMix v => Sys2Proof.Machine.execSetCombMix v s
  | .setCombDecay v => Sys2Proof.Machine.execSetCombDecay v s
  | .setCombAp v => Sys2Proof.Machine.execSetCombAp v s
  | .setCombApRes v => Sys2Proof.Machine.execSetCombApRes v s
  | .setCombKt v => Sys2Proof.Machine.execSetCombKt v s
  | .setUfEnable v => Sys2Proof.Machine.execSetUfEnable v s
  | .setUfType v => Sys2Proof.Machine.execSetUfType v s
  | .setUfCutoff v => Sys2Proof.Machine.execSetUfCutoff v s
  | .setUfRes v => Sys2Proof.Machine.execSetUfRes v s
  | .setUfShelf v => Sys2Proof.Machine.execSetUfShelf v s
  | .ctrl id v => Sys2Proof.Machine.execCtrl id v s
  | .tick payload => Sys2Proof.Machine.execTick payload s
  | .reset payload => Sys2Proof.Machine.execReset payload s
  | .reserved payload => Sys2Proof.Machine.execReserved payload s

end Sys2Proof.Machine
end

