-- ==== Sys2Proof/Machine/Step.lean ====
section
/-! DEFINITION. One step: take the next port word, decode it, and carry it out completely (R108, R111, R471). -/

namespace Sys2Proof.Machine

/-- One step of the machine. -/
def step (s : State) : Host.Outcome State Fault Refusal :=
  match s.port with
  | [] => waitForWord s
  | w :: rest =>
    match decode s.cfg w with
    | .ok i => exec i (s.taken rest)
    | .error e => ignoreWord e (s.taken rest)

/-- The state with an instruction's bits as the next port word the block takes: the host has sent that word. -/
def State.withFetchWord (s : State) (nbits w : Nat) : State :=
  { s with port := BitVec.ofNat 26 (w % 2 ^ nbits) :: s.port }

end Sys2Proof.Machine
end

