-- ==== Sys2Proof/Safety.lean ====
section
/-! DEFINITION. What a safe state is, in the terms claims use: the two allocation lists as lists of slot indices (R49,
R50), the canonical form of the delay lines, the ramp invariant (R51) and
the monotonicity of a ramp (R196), and the step that answers a next state (R460). -/

namespace Sys2Proof

/-- The slots listed in `xs` carry the tag, and their `next` and `prev` pointers run along `xs`, whose first element has
`prev` equal to `before` (R49). -/
def Linked (slots : List Slot) (tag : Tag) : Option Nat → List Nat → Prop
  | _, [] => True
  | before, v :: rest =>
    (∃ x, slots[v]? = some x ∧ x.tag = tag ∧ x.prev = before ∧ x.next = rest.head?) ∧ Linked slots tag (some v) rest

/-- The registers of an allocation list hold `xs`, oldest first (R49). -/
def ListRegs.Hold (r : ListRegs) (slots : List Slot) (tag : Tag) (xs : List Nat) : Prop :=
  r.head = xs.head? ∧ r.tail = xs.getLast? ∧ r.count = xs.length ∧ Linked slots tag none xs

/-- A converged ramped register holds its target at ramp position 1 (R51, R194). -/
def Ramp.Consistent (r : Ramp) : Prop := r.dirty = false → r.ramp = F32.one ∧ r.cur = r.target

/-- `y` lies between `x` and `t`, ends included. A NaN lies between nothing (R14). -/
def F32.between (x y t : F32) : Bool := (y.ge x && t.ge y) || (x.ge y && y.ge t)

/-- A ramped register after `k` advances (R193). -/
def Ramp.advances (inc : F32) : Nat → Ramp → Ramp
  | 0, r => r
  | k + 1, r => Ramp.advances inc k (advance inc r)

/-- The monotonicity of R196, as the property to check that the rule asks for: over `k` advances each value of `cur` lies
between the one before it and the target, the last step included, and the register has converged at the end. -/
def Ramp.monotone (inc : F32) : Nat → Ramp → Bool
  | 0, r => !r.dirty
  | k + 1, r => F32.between r.cur (advance inc r).cur r.target && Ramp.monotone inc k (advance inc r)

/-- R196 for a ramp from a register that rests at `base`, of `k` advances under a configuration. -/
def rampMonotone (cfg : Config) (k : Nat) (base target : F32) : Bool :=
  Ramp.monotone (rampInc cfg) k (initRamp (Ramp.settled base) target)

/-- The reset value of each ramped register, as the table of R53 lists them. -/
def resetValue : RampReg → F32
  | .mod _ .drive => lit 0x3F800000
  | .mod _ .level => lit 0x3F000000
  | .mod _ .pan => lit 0x3F000000
  | .mod _ _ => lit 0x00000000
  | .mixDrive => lit 0x3F800000
  | .mixLevel => lit 0x3F800000
  | .cabDrive => lit 0x3F800000
  | .cabLevel => lit 0x3F800000
  | .echoDry => lit 0x3F800000
  | .combDecay => lit 0x3F000000
  | _ => lit 0x00000000

/-- A slot is another but for its list links (R43). -/
def Slot.SameButLinks (x y : Slot) : Prop := y = { x with next := y.next, prev := y.prev }

/-- Slot `y` is slot `x` with a note struck on it, its list links aside (R163, R164): the tag, the pitch, the velocity, the
frequency and increment of both oscillators, their phases and the comb delay are written, and nothing else is. -/
def Slot.Struck (cfg : Config) (P : Params) (pitch vel : Seven) (x y : Slot) : Prop :=
  y.tag = .assigned ∧ y.pitch = pitch ∧ y.vel = mapUni vel
    ∧ (∀ m : Module, y.osc.get m =
        { p := F32.zero
          inc := ((pitchFreq pitch).add
            (((x.osc.get m).r.mul (P.mods.get m).fluct.cur).mul (pitchFreq pitch))).div cfg.fs
          f0 := pitchFreq pitch
          s := (x.osc.get m).s
          r := (x.osc.get m).r
          chirp := (x.osc.get m).chirp })
    ∧ y.selfMix = x.selfMix ∧ y.crossMix = x.crossMix ∧ y.comb = x.comb ∧ y.combD = combDelay cfg P.combKt pitch

/-- Where a sum of `2^-s` units overflows: at `2^128 - 2^103`, halfway past the largest finite value (R12). -/
def overflowAt (s : Nat) : Int := 33554431 * 2 ^ (103 + s)

/-- `r` is the binary32 value nearest to `num / den * 2^-s`, ties to even, for `149 ≤ s` and `0 < den` (R12): no finite value
is nearer, at an equal distance from another value its pattern is even, and an infinity stands exactly where the value
overflows. Distances are compared in units of `2^-s / den`. -/
def F32.IsNearestQuot (r : F32) (num : Int) (den s : Nat) : Prop :=
  match r with
  | .nan => False
  | .inf neg => overflowAt s * den ≤ num.natAbs ∧ neg = decide (num < 0)
  | .fin neg mag =>
    (num.natAbs : Int) < overflowAt s * den ∧ ∀ (n : Bool) (m : Fin 0x7F800000),
      (F32.value149 (.fin neg mag) * 2 ^ (s - 149) * den - num).natAbs
          < (F32.value149 (.fin n m) * 2 ^ (s - 149) * den - num).natAbs
        ∨ ((F32.value149 (.fin neg mag) * 2 ^ (s - 149) * den - num).natAbs
            = (F32.value149 (.fin n m) * 2 ^ (s - 149) * den - num).natAbs
          ∧ (F32.value149 (.fin neg mag) = F32.value149 (.fin n m) ∨ mag.val % 2 = 0))

/-- `r` is the binary32 value nearest to `num * 2^-s`, ties to even, for `149 ≤ s` (R12). -/
def F32.IsNearest (r : F32) (num : Int) (s : Nat) : Prop := r.IsNearestQuot num 1 s

/-- `y` is `x` bit for bit, but that `-0.0` may have turned into `+0.0` (R325). -/
def F32.PassesAs (x y : F32) : Prop := y = x ∨ (x = F32.zero.neg ∧ y = F32.zero)

/-- What a fully dry crossfade of `x` with `wet` makes of a finite `x`: it passes while `wet` is finite, and is NaN
otherwise (R325, R354, R365). The second case takes in a finite `x` that overflows on its way to `wet`, where the prose of R325
and R365 has `wet` finite (DEDUCED, log 20). -/
def F32.DryPass (x wet out : F32) : Prop := if wet.isFinite then x.PassesAs out else out = .nan

/-- The unramped registers, as one record to compare (R52, R53). -/
def Params.unramped (p : Params) : PerModule F32 × F32 × F32 × F32 × F32 × F32 × F32 × F32 × F32 × F32 × Bool × BitVec 2
    × F32 × F32 × F32 :=
  (p.chirp, p.cabLocut, p.cabHicut, p.cabTilt, p.echoTime, p.echoStereo, p.echoHicut, p.combAp, p.combApRes, p.combKt,
    p.ufEnable, p.ufType, p.ufCutoff, p.ufRes, p.ufShelf)

end Sys2Proof

namespace Sys2Proof.Machine

/-- The assigned list is `A` and the released list is `R`, oldest first, and every slot index is in exactly one of them
(R50). -/
def State.Lists (s : State) (A R : List Nat) : Prop :=
  ListRegs.Hold s.asg s.slots .assigned A ∧ ListRegs.Hold s.rel s.slots .free R
    ∧ (A ++ R).Perm (List.range s.cfg.n) ∧ s.slots.length = s.cfg.n

/-- The allocation invariant of R50, on an instance with at least one slot (R7). -/
def State.AllocInv (s : State) : Prop := 0 < s.cfg.n ∧ ∃ A R, s.Lists A R

/-- Every delay line is in canonical form with its write index in range (R102, R340). -/
def State.LinesInv (s : State) : Prop :=
  0 < s.cfg.echoBuf ∧ 0 < s.cfg.combBuf
    ∧ (∀ x ∈ s.slots, ∀ m : Module, Line.wf s.cfg.combBuf (x.comb.get m).line = true)
    ∧ (∀ c : Channel, Line.wf s.cfg.echoBuf (s.bus.echo.get c).line = true)

/-- Every ramped register is consistent. -/
def State.RampInv (s : State) : Prop := ∀ r : RampReg, Ramp.Consistent (s.params.ramp r)

/-- The machine takes a step to a next state: neither a fault nor a refusal (R460). -/
def State.SafeStep (s : State) : Prop := ∃ t, step s = .next t

/-- Every part of `t` but the voice pool and the two lists is as in `s`. -/
def State.SameButPool (s t : State) : Prop :=
  t.cfg = s.cfg ∧ t.port = s.port ∧ t.out = s.out ∧ t.nanDraws = s.nanDraws ∧ t.params = s.params ∧ t.coefs = s.coefs
    ∧ t.bus = s.bus

/-- Every slot of `t` but `v` is as in `s`, its list links aside. -/
def State.OtherSlotsSameButLinks (s t : State) (v : Nat) : Prop :=
  ∀ u, u ≠ v → ∀ x, s.slots[u]? = some x → ∃ y, t.slots[u]? = some y ∧ Slot.SameButLinks x y

/-- Two outcomes one after the other: run `f` from the next state, and stop where the first stops. -/
def thenStep (r : Host.Outcome State Fault Refusal) (f : State → Host.Outcome State Fault Refusal) :
    Host.Outcome State Fault Refusal :=
  match r with
  | .next s => f s
  | .fault e => .fault e
  | .refused e => .refused e

end Sys2Proof.Machine
end

