-- ==== Sys2Proof/Certificates/Slice0/Obligations.lean ====
section
/-! DEFINITION. The statements for the provers. Each is a `def Obligations.<Name> : Prop`; OBLIGATIONS.json says of each what
it states and what of the spec it rests on. -/

open Sys2Proof Sys2Proof.Machine

/-- A step runs the instruction the next port word decodes to (30_encoding.md R130, 20_memory.md R111). -/
def Obligations.StepRunsTheDecodedInstruction : Prop :=
  ∀ (s : State) (w : PortWord) (rest : List PortWord) (i : Instr), s.port = w :: rest → decode s.cfg w = .ok i →
    step s = exec i { s with port := rest, out := none }

/-- A word that decodes to no instruction is taken and does nothing (30_encoding.md R137, 60_exceptions.md R461). -/
def Obligations.RejectedWordIsNoOperation : Prop :=
  ∀ (s : State) (w : PortWord) (rest : List PortWord) (e : DecodeError), s.port = w :: rest → decode s.cfg w = .error e →
    step s = .next { s with port := rest, out := none }

/-- With no port word to take, the state stays as it is (60_exceptions.md R473). -/
def Obligations.StepOnEmptyPortChangesNothing : Prop :=
  ∀ s : State, s.port = [] → step s = .next s

/-- Every port word of all 2^26 patterns has a successor state; no step faults or refuses (R119). -/
def Obligations.EveryStepHasASuccessor : Prop :=
  ∀ s : State, s.SafeStep

/-- A TICK word returns a pair and no other word returns anything (R131). -/
def Obligations.OnlyTickReturnsAPair : Prop :=
  ∀ (s t : State) (w : PortWord) (rest : List PortWord), s.port = w :: rest → step s = .next t →
    (t.out.isSome = true ↔ w.extractLsb' 24 2 = 1#2)

/-- No port word changes the configuration (60_exceptions.md R468, 00_scope.md R7). -/
def Obligations.ConfigurationNeverChanges : Prop :=
  ∀ s t : State, step s = .next t → t.cfg = s.cfg

/-- A step takes exactly the word at the front of the port (20_memory.md R111). -/
def Obligations.WordsAreTakenInOrder : Prop :=
  ∀ (s t : State) (w : PortWord) (rest : List PortWord), s.port = w :: rest → step s = .next t → t.port = rest

/-- Decode and encode agree for every well-formed instruction of every legal configuration (30_encoding.md R130, 30_encoding.md R132, 30_encoding.md R133, 30_encoding.md R134, 30_encoding.md R135, 30_encoding.md R139). -/
def Obligations.DecodeOfEncodeIsTheInstruction : Prop :=
  ∀ (cfg : Config) (i : Instr), cfg.legal = true → i.wellFormed cfg = true → decode cfg (encode cfg i) = .ok i

/-- Under the default configuration every decoded word is the encoding of what it decodes to (30_encoding.md R139). -/
def Obligations.EncodeOfDecodeIsTheWord : Prop :=
  ∀ (w : PortWord) (i : Instr), decode Config.default w = .ok i →
    i.wellFormed Config.default = true ∧ encode Config.default i = w

/-- The bytes of a port word and of a returned pair, least significant first, and a port word read back from its bytes (20_memory.md R104, 20_memory.md R105, log 15). -/
def Obligations.BytesRoundTrip : Prop :=
  (∀ (w : PortWord) (rest : List Byte), deserialise (serialise w ++ rest) = .ok (w, rest))
    ∧ (∀ w : PortWord, serialise w =
        [w.extractLsb' 0 8, w.extractLsb' 8 8, w.extractLsb' 16 8, (0#6 ++ w.extractLsb' 24 2 : BitVec 8)])
    ∧ (∀ (s : State) (l r : BitVec 32), s.out = some (l, r) → s.outBytes =
        some [l.extractLsb' 0 8, l.extractLsb' 8 8, l.extractLsb' 16 8, l.extractLsb' 24 8,
          r.extractLsb' 0 8, r.extractLsb' 8 8, r.extractLsb' 16 8, r.extractLsb' 24 8])
    ∧ (∀ s : State, s.out = none → s.outBytes = none)

/-- Which words the decoder rejects; that it decodes the other no-operation words is the model's choice (log 4) (30_encoding.md R135, 30_encoding.md R136, 30_encoding.md R137, log 4). -/
def Obligations.RejectedWordsAreTheUndefinedCommands : Prop :=
  ∀ (cfg : Config) (w : PortWord), cfg.legal = true →
    ((∃ e, decode cfg w = .error e) ↔
      w.extractLsb' 24 2 = 0#2 ∧
        (w.getLsbD 15 = true ∨ w.getLsbD 7 = true ∨
          (w.extractLsb' 16 8 ≠ cfg.sNoteOn ∧ w.extractLsb' 16 8 ≠ cfg.sNoteOff ∧ w.extractLsb' 16 8 ≠ cfg.sCtrl)))

/-- The example port words of R140 decode to the instructions they stand for (30_encoding.md R139, 30_encoding.md R140). -/
def Obligations.ExampleWordsDecode : Prop :=
  decodeTableWord 32 0x0904564 = some (.noteOn 69 100) ∧ decodeTableWord 32 0x0804500 = some (.noteOff 69 0)
    ∧ decodeTableWord 32 0x0903C00 = some (.noteOnV0 60) ∧ decodeTableWord 32 0x0B02C40 = some (.setEchoMix 64)
    ∧ decodeTableWord 32 0x0B03301 = some (.setUfType 1) ∧ decodeTableWord 32 0x0B06405 = some (.ctrl 100 5)
    ∧ decodeTableWord 32 0x1000000 = some (.tick 0) ∧ decodeTableWord 32 0x2000000 = some (.reset 0)
    ∧ decodeTableWord 32 0x3000000 = some (.reserved 0)

/-- Elaboration refuses exactly the configurations outside the legal values (60_exceptions.md R474, 00_scope.md R7). -/
def Obligations.ElaborationRefusesIllegalConfigurations : Prop :=
  (∀ cfg : Config, cfg.legal = true → elaborate cfg = .next (State.resetOf cfg))
    ∧ (∀ cfg : Config, cfg.legal = false → elaborate cfg = .refused .illegalConfiguration)
    ∧ Config.default.legal = true
    ∧ { Config.default with n := 0 }.legal = false
    ∧ { Config.default with fs := F32.ofNat 7999 }.legal = false
    ∧ { Config.default with fs := (F32.ofNat 16001).mul F32.half }.legal = false
    ∧ { Config.default with combBuf := 8193 }.legal = false
    ∧ { Config.default with sNoteOff := 0x90 }.legal = false
    ∧ { Config.default with ctrlMap := some 55 :: Config.default.ctrlMap.tail }.legal = false

/-- RESET leaves the reset state, the same whatever was before it (70_reset_and_hazards.md R490, log 2). -/
def Obligations.ResetLeavesTheResetState : Prop :=
  ∀ (payload : BitVec 24) (s : State),
    exec (.reset payload) s =
      .next { State.resetOf s.cfg with port := s.port, out := s.out, nanDraws := s.nanDraws }

/-- What RESET leaves in every slot and in the two lists (70_reset_and_hazards.md R490, 10_state.md R43, 10_state.md R44, 10_state.md R45, 10_state.md R46, 10_state.md R50). -/
def Obligations.ResetSlotValues : Prop :=
  ∀ cfg : Config, 0 < cfg.n →
    (State.resetOf cfg).Lists [] (List.range cfg.n) ∧
    ∀ v, v < cfg.n → ∃ x, (State.resetOf cfg).slots[v]? = some x ∧
      x.tag = .free ∧ x.pitch = 60 ∧ x.vel = F32.zero ∧ x.combD = combDelay cfg F32.one 60
        ∧ x.osc.a.s = BitVec.ofNat 32 (2 * v + 1) ∧ x.osc.b.s = BitVec.ofNat 32 (2 * v + 2)
        ∧ x.selfMix = ⟨F32.zero, F32.zero⟩ ∧ x.crossMix = ⟨F32.zero, F32.zero⟩
        ∧ ∀ m : Module, (x.osc.get m).p = F32.zero ∧ (x.osc.get m).r = F32.zero ∧ (x.osc.get m).chirp.s1 = F32.zero
          ∧ (x.osc.get m).f0 = pitchFreq 60
          ∧ (x.osc.get m).inc = ((pitchFreq 60).add ((F32.zero.mul F32.zero).mul (pitchFreq 60))).div cfg.fs
          ∧ (x.comb.get m).line.w = 0 ∧ (∀ k, Memory.read (x.comb.get m).line.mem k = F32.zero)
          ∧ (x.comb.get m).ap.s1 = F32.zero ∧ (x.comb.get m).ap.s2 = F32.zero

/-- RESET leaves every parameter, coefficient register and bus register at its reset value (10_state.md R51, 10_state.md R53, 10_state.md R55, 10_state.md R56, 10_state.md R57, 10_state.md R58, 10_state.md R59, 70_reset_and_hazards.md R490, 70_reset_and_hazards.md R492, 47_cabinet.md R328). -/
def Obligations.ResetRegistersAreConvergedAtTheirResetValues : Prop :=
  (∀ (cfg : Config) (r : RampReg),
    (State.resetOf cfg).params.ramp r =
      Ramp.mk (resetValue r) (resetValue r) (resetValue r) F32.zero F32.one false)
    ∧ (∀ cfg : Config, (State.resetOf cfg).params.unramped =
        (⟨lit 0x469BB59C, lit 0x469BB59C⟩, lit 0x41A00000, lit 0x469BB59C, lit 0, lit 0x3EC00000, lit 0, lit 0x469BB59C,
          lit 0x469BB59C, lit 0, lit 0x3F800000, false, 0, lit 0x469BB59C, lit 0, lit 0))
    ∧ (∀ cfg : Config, (State.resetOf cfg).coefs =
        { chirp := ⟨opCoeffs cfg .lp (lit 0x469BB59C) F32.zero, opCoeffs cfg .lp (lit 0x469BB59C) F32.zero⟩
          combAp := bqCoeffs cfg .ap (lit 0x469BB59C) F32.zero F32.zero
          mixHp := opCoeffs cfg .hp (lit 0x4102D013) F32.zero
          cab :=
            { hp := bqCoeffs cfg .hp (lit 0x41A00000) F32.zero F32.zero
              t1 := tiltCoeffs cfg (lit 0x44960000) F32.zero F32.one
              t2 := tiltCoeffs cfg (lit 0x44960000) F32.zero.neg F32.one
              lp1 := bqCoeffs cfg .lp (lit 0x469BB59C) F32.zero F32.zero
              lp2 := bqCoeffs cfg .lp ((lit 0x469BB59C).mul (lit 0x3FAA9FBE)) F32.zero F32.zero }
          cabH30 := opCoeffs cfg .hp (lit 0x41F00000) F32.zero
          echoLp := opCoeffs cfg .lp (lit 0x469BB59C) F32.zero
          echoHp := opCoeffs cfg .hp (lit 0x42480000) F32.zero
          uf := bqCoeffs cfg .lp (lit 0x469BB59C) F32.zero F32.zero })
    ∧ (∀ (cfg : Config) (c : Channel),
        (State.resetOf cfg).bus.mixHp.get c = ⟨F32.zero⟩
        ∧ (State.resetOf cfg).bus.cab.get c =
          { hp := ⟨F32.zero, F32.zero⟩, t1 := ⟨F32.zero, F32.zero⟩, h30 := ⟨F32.zero⟩, t2 := ⟨F32.zero, F32.zero⟩,
            lp1 := ⟨F32.zero, F32.zero⟩, lp2 := ⟨F32.zero, F32.zero⟩ }
        ∧ ((State.resetOf cfg).bus.echo.get c).line.w = 0
        ∧ (∀ k, Memory.read ((State.resetOf cfg).bus.echo.get c).line.mem k = F32.zero)
        ∧ ((State.resetOf cfg).bus.echo.get c).d =
          ((lit 0x3EC00000).mul cfg.fs).clamp F32.two (F32.ofNat (cfg.echoBuf - 2))
        ∧ ((State.resetOf cfg).bus.echo.get c).hist = F32.zero
        ∧ ((State.resetOf cfg).bus.echo.get c).lp = ⟨F32.zero⟩ ∧ ((State.resetOf cfg).bus.echo.get c).hp = ⟨F32.zero⟩
        ∧ (State.resetOf cfg).bus.uf.get c = ⟨F32.zero, F32.zero⟩)
    ∧ (∀ n : Nat, (State.resetOf (Config.standard n 48000)).coefs =
        { chirp := ⟨⟨lit 0x3F49231D, lit 0x3F49231D, lit 0x3F124638⟩, ⟨lit 0x3F49231D, lit 0x3F49231D, lit 0x3F124638⟩⟩
          combAp := ⟨lit 0x3EA7108D, lit 0x3F92505A, lit 0x3F800000, lit 0x3F92505A, lit 0x3EA7108D⟩
          mixHp := ⟨lit 0x3F7FDCF3, lit 0xBF7FDCF3, lit 0xBF7FB9E6⟩
          cab :=
            { hp := ⟨lit 0x3F7F54C5, lit 0xBFFF54C5, lit 0x3F7F54C5, lit 0xBFFF54A8, lit 0x3F7EA9C0⟩
              t1 := ⟨lit 0x3F800000, lit 0xBFE3B0A6, lit 0x3F4D0114, lit 0xBFE3B0A6, lit 0x3F4D0114⟩
              t2 := ⟨lit 0x3F800000, lit 0xBFE3B0A6, lit 0x3F4D0114, lit 0xBFE3B0A6, lit 0x3F4D0114⟩
              lp1 := ⟨lit 0x3F1E0A3F, lit 0x3F9E0A3F, lit 0x3F1E0A3F, lit 0x3F92505A, lit 0x3EA7108D⟩
              lp2 := ⟨lit 0x3F566F5F, lit 0x3FD66F5F, lit 0x3F566F5F, lit 0x3FD49C03, lit 0x3F308577⟩ }
          cabH30 := ⟨lit 0x3F7F7F93, lit 0xBF7F7F93, lit 0xBF7EFF25⟩
          echoLp := ⟨lit 0x3F49231D, lit 0x3F49231D, lit 0x3F124638⟩
          echoHp := ⟨lit 0x3F7F2A3B, lit 0xBF7F2A3B, lit 0xBF7E5476⟩
          uf := ⟨lit 0x3F1E0A3F, lit 0x3F9E0A3F, lit 0x3F1E0A3F, lit 0x3F92505A, lit 0x3EA7108D⟩ }
        ∧ (∀ c : Channel, ((State.resetOf (Config.standard n 48000)).bus.echo.get c).d = lit 0x468CA000)
        ∧ ∀ x ∈ (State.resetOf (Config.standard n 48000)).slots, x.combD = lit 0x433777E3
          ∧ ∀ m : Module, (x.osc.get m).f0 = lit 0x4382D013 ∧ (x.osc.get m).inc = lit 0x3BB29A62)

/-- The allocation invariant holds after RESET (10_state.md R50). -/
def Obligations.ResetStateMeetsTheAllocationInvariant : Prop :=
  State.reset.AllocInv

/-- Every step keeps the allocation invariant of R50 (10_state.md R50, 40_voice_allocator.md R162, 40_voice_allocator.md R167). -/
def Obligations.EveryStepKeepsTheAllocationInvariant : Prop :=
  ∀ s t : State, s.AllocInv → step s = .next t → t.AllocInv

/-- The counts of the two lists add up to N (10_state.md R50, 40_voice_allocator.md R167). -/
def Obligations.AssignedPlusReleasedIsN : Prop :=
  ∀ s : State, s.AllocInv → s.asg.count + s.rel.count = s.cfg.n

/-- unlink fixes the neighbours, the head or tail, the count, and clears the slot's links (R160). -/
def Obligations.UnlinkFollowsItsPointers : Prop :=
  ∀ (s : State) (l : ListName) (v : Nat) (x : Slot), s.slots[v]? = some x → x.prev ≠ some v → x.next ≠ some v →
    (∀ (u : Nat) (y : Slot), s.slots[u]? = some y → (s.unlink l v).slots[u]? = some { y with
      next := if u = v then none else if x.prev = some u then x.next else y.next
      prev := if u = v then none else if x.next = some u then x.prev else y.prev })
    ∧ (s.unlink l v).list l = { head := if x.prev = none then x.next else (s.list l).head
                                tail := if x.next = none then x.prev else (s.list l).tail
                                count := (s.list l).count - 1 }
    ∧ (∀ m, m ≠ l → (s.unlink l v).list m = s.list m) ∧ s.SameButPool (s.unlink l v)

/-- append makes a slot the youngest element of a list (R161). -/
def Obligations.AppendMakesTheYoungest : Prop :=
  ∀ (s : State) (l : ListName) (v : Nat), (s.list l).tail ≠ some v →
    (∀ (u : Nat) (y : Slot), s.slots[u]? = some y → (s.append l v).slots[u]? = some { y with
      prev := if u = v then (s.list l).tail else y.prev
      next := if u = v then none else if (s.list l).tail = some u then some v else y.next })
    ∧ (s.append l v).list l = { head := if (s.list l).tail = none then some v else (s.list l).head
                                tail := some v
                                count := (s.list l).count + 1 }
    ∧ (∀ m, m ≠ l → (s.append l v).list m = s.list m) ∧ s.SameButPool (s.append l v)

/-- NOTE_ON with a free slot takes the oldest released one and strikes the note on it (40_voice_allocator.md R163, 40_voice_allocator.md R164). -/
def Obligations.NoteOnTakesTheOldestReleasedSlot : Prop :=
  ∀ (s : State) (A R : List Nat) (v : Nat) (pitch vel : Seven), s.Lists A (v :: R) →
    ∃ t x y, exec (.noteOn pitch vel) s = .next t ∧ t.Lists (A ++ [v]) R
      ∧ s.slots[v]? = some x ∧ t.slots[v]? = some y ∧ Slot.Struck s.cfg s.params pitch vel x y
      ∧ s.SameButPool t ∧ s.OtherSlotsSameButLinks t v

/-- NOTE_ON with the pool full steals the oldest assigned slot (40_voice_allocator.md R164, 40_voice_allocator.md R167). -/
def Obligations.NoteOnStealsTheOldestAssignedSlot : Prop :=
  ∀ (s : State) (A : List Nat) (v : Nat) (pitch vel : Seven), s.Lists (v :: A) [] →
    ∃ t x y, exec (.noteOn pitch vel) s = .next t ∧ t.Lists (A ++ [v]) []
      ∧ s.slots[v]? = some x ∧ t.slots[v]? = some y ∧ Slot.Struck s.cfg s.params pitch vel x y
      ∧ s.SameButPool t ∧ s.OtherSlotsSameButLinks t v

/-- NOTE_OFF and NOTE_ON with velocity 0 release the lowest assigned slot of the pitch (40_voice_allocator.md R165, 40_voice_allocator.md R166, 90_conflicts.md C5). -/
def Obligations.KeyUpReleasesTheFirstMatch : Prop :=
  ∀ (s : State) (A R : List Nat) (v : Nat) (x : Slot) (pitch ignored : Seven), s.Lists A R →
    s.slots[v]? = some x → x.tag = .assigned → x.pitch = pitch →
    (∀ u z, u < v → s.slots[u]? = some z → ¬ (z.tag = .assigned ∧ z.pitch = pitch)) →
    ∃ t y, exec (.noteOff pitch ignored) s = .next t ∧ exec (.noteOnV0 pitch) s = .next t ∧ t.Lists (A.erase v) (R ++ [v])
      ∧ t.slots[v]? = some y ∧ Slot.SameButLinks { x with tag := .free, vel := F32.zero } y
      ∧ s.SameButPool t ∧ s.OtherSlotsSameButLinks t v

/-- A key up that matches no assigned slot is a no-operation (40_voice_allocator.md R166, 30_encoding.md R137). -/
def Obligations.UnmatchedKeyUpChangesNothing : Prop :=
  ∀ (s : State) (pitch ignored : Seven), (∀ x ∈ s.slots, ¬ (x.tag = .assigned ∧ x.pitch = pitch)) →
    exec (.noteOff pitch ignored) s = .next s ∧ exec (.noteOnV0 pitch) s = .next s

/-- initRamp: base is cur, the target is set, diff is their rounded difference, ramp 0, dirty (41_smoother.md R192). -/
def Obligations.InitRampStartsFromTheValueReached : Prop :=
  ∀ (r : Ramp) (t : F32), initRamp r t = { cur := r.cur, base := r.cur, target := t, diff := t.sub r.cur, ramp := lit 0, dirty := true }

/-- Every SET of a ramped parameter completes, starts that register's ramp and changes nothing else (49_control_map.md §3 (R400 to R454, the ramped parameters), 41_smoother.md R192, 49_control_map.md R382). -/
def Obligations.RampedSetsStartOneRamp : Prop :=
  ∀ e ∈ ([(.aFluct, .mod .a .fluct, mapFluct),
      (.aPmSelf, .mod .a .pmSelf, mapUni),
      (.aPmCross, .mod .a .pmCross, mapUni),
      (.aPmSelfShp, .mod .a .pmSelfShp, mapBip),
      (.aPmCrossShp, .mod .a .pmCrossShp, mapBip),
      (.aDrive, .mod .a .drive, mapDrive),
      (.aFold, .mod .a .fold, mapUni),
      (.aAsym, .mod .a .asym, mapUni),
      (.aMainmix, .mod .a .mainMix, mapBip),
      (.aRing, .mod .a .ring, mapUni),
      (.aLevel, .mod .a .level, mapUni),
      (.aPan, .mod .a .pan, mapPan),
      (.bFluct, .mod .b .fluct, mapFluct),
      (.bPmSelf, .mod .b .pmSelf, mapUni),
      (.bPmCross, .mod .b .pmCross, mapUni),
      (.bPmSelfShp, .mod .b .pmSelfShp, mapBip),
      (.bPmCrossShp, .mod .b .pmCrossShp, mapBip),
      (.bDrive, .mod .b .drive, mapDrive),
      (.bFold, .mod .b .fold, mapUni),
      (.bAsym, .mod .b .asym, mapUni),
      (.bMainmix, .mod .b .mainMix, mapBip),
      (.bRing, .mod .b .ring, mapUni),
      (.bLevel, .mod .b .level, mapUni),
      (.bPan, .mod .b .pan, mapPan),
      (.keypan, .keypan, mapBip),
      (.mixDrive, .mixDrive, mapDrive),
      (.mixFold, .mixFold, mapUni),
      (.mixAsym, .mixAsym, mapUni),
      (.mixLevel, .mixLevel, mapUni),
      (.cabDrive, .cabDrive, mapDrive),
      (.cabFold, .cabFold, mapUni),
      (.cabAsym, .cabAsym, mapUni),
      (.cabMix, .cabMix, mapUni),
      (.cabLevel, .cabLevel, mapCabLevel),
      (.echoFb, .echoFb, mapUni),
      (.echoXfb, .echoXfb, mapUni),
      (.combMix, .combMix, mapUni),
      (.combDecay, .combDecay, mapDecay)] : List (Param × RampReg × (Seven → F32))),
    ∀ (v : Seven) (s : State), exec (e.1.setInstr v) s = .next { s with
      params := s.params.setRamp
        { cur := (s.params.ramp e.2.1).cur, base := (s.params.ramp e.2.1).cur, target := e.2.2 v,
          diff := (e.2.2 v).sub (s.params.ramp e.2.1).cur, ramp := F32.zero, dirty := true } e.2.1 }

/-- SET ECHO_MIX starts the ramps of both echo gains (49_control_map.md R395, 49_control_map.md R444). -/
def Obligations.EchoMixStartsBothRamps : Prop :=
  ∀ (v : Seven) (s : State), ∃ t, exec (.setEchoMix v) s = .next t ∧ t = { s with params := t.params }
    ∧ t.params.unramped = s.params.unramped
    ∧ ∀ r : RampReg, t.params.ramp r =
        if r = .echoDry then initRamp (s.params.ramp .echoDry) (mapDry v)
        else if r = .echoWet then initRamp (s.params.ramp .echoWet) (mapWet v) else s.params.ramp r

/-- Writing one ramped register leaves every other one (10_state.md R53, 49_control_map.md R456). -/
def Obligations.RampedRegistersAreIndependent : Prop :=
  ∀ (p : Params) (x : Ramp) (r q : RampReg),
    (p.setRamp x r).ramp q = (if q = r then x else p.ramp q) ∧ (p.setRamp x r).unramped = p.unramped

/-- TICK completes and advances every ramped register once (40_voice_allocator.md R170, 40_voice_allocator.md R173, 41_smoother.md R193). -/
def Obligations.TickAdvancesEveryRampOnce : Prop :=
  ∀ (payload : BitVec 24) (s : State), ∃ t, exec (.tick payload) s = .next t
    ∧ (∀ r : RampReg, t.params.ramp r =
        let q := s.params.ramp r
        if q.dirty = false then q
        else if (q.ramp.add (rampInc s.cfg)).ge F32.one = true
          then { cur := q.target, base := q.base, target := q.target, diff := q.diff, ramp := F32.one, dirty := false }
          else { cur := q.base.add (q.diff.mul (q.ramp.add (rampInc s.cfg))), base := q.base, target := q.target
                 diff := q.diff, ramp := q.ramp.add (rampInc s.cfg), dirty := true })
    ∧ t.params.unramped = s.params.unramped ∧ t.coefs = s.coefs ∧ t.asg = s.asg ∧ t.rel = s.rel ∧ t.cfg = s.cfg
    ∧ t.port = s.port

/-- After RESET every register with dirty clear holds its target at ramp 1 (10_state.md R51, 41_smoother.md R194). -/
def Obligations.ResetRampsAreConsistent : Prop :=
  State.reset.RampInv

/-- Every step keeps: a register with dirty clear has ramp 1 and cur equal to target (10_state.md R51, 41_smoother.md R194). -/
def Obligations.EveryStepKeepsRampsConsistent : Prop :=
  ∀ s t : State, s.RampInv → step s = .next t → t.RampInv

/-- Every SET of an unramped parameter completes, writes it, recomputes what depends on it, and changes nothing else (49_control_map.md §3 (R401 to R454, the unramped parameters), 49_control_map.md R382). -/
def Obligations.UnrampedSetsWriteAndRecompute : Prop :=
  (∀ (v : Seven) (s : State), exec (.setAChirp v) s = .next { s with
      params := { s.params with chirp := ⟨mapCut v, s.params.chirp.b⟩ }
      coefs := { s.coefs with chirp := ⟨opLowPass s.cfg (mapCut v), s.coefs.chirp.b⟩ } })
    ∧ (∀ (v : Seven) (s : State), exec (.setBChirp v) s = .next { s with
      params := { s.params with chirp := ⟨s.params.chirp.a, mapCut v⟩ }
      coefs := { s.coefs with chirp := ⟨s.coefs.chirp.a, opLowPass s.cfg (mapCut v)⟩ } })
    ∧ (∀ (v : Seven) (s : State), exec (.setCabLocut v) s = .next { s with
      params := { s.params with cabLocut := mapCut v }
      coefs := { s.coefs with cab := cabCoeffs s.cfg (mapCut v) s.params.cabHicut s.params.cabTilt } })
    ∧ (∀ (v : Seven) (s : State), exec (.setCabHicut v) s = .next { s with
      params := { s.params with cabHicut := mapCut v }
      coefs := { s.coefs with cab := cabCoeffs s.cfg s.params.cabLocut (mapCut v) s.params.cabTilt } })
    ∧ (∀ (v : Seven) (s : State), exec (.setCabTilt v) s = .next { s with
      params := { s.params with cabTilt := mapTilt v }
      coefs := { s.coefs with cab := cabCoeffs s.cfg s.params.cabLocut s.params.cabHicut (mapTilt v) } })
    ∧ (∀ (v : Seven) (s : State), exec (.setEchoTime v) s = .next { s with params := { s.params with echoTime := mapTime v } })
    ∧ (∀ (v : Seven) (s : State), exec (.setEchoStereo v) s = .next { s with
      params := { s.params with echoStereo := mapBip v } })
    ∧ (∀ (v : Seven) (s : State), exec (.setEchoHicut v) s = .next { s with
      params := { s.params with echoHicut := mapCut v }
      coefs := { s.coefs with echoLp := opLowPass s.cfg (mapCut v) } })
    ∧ (∀ (v : Seven) (s : State), exec (.setCombAp v) s = .next { s with
      params := { s.params with combAp := mapCut v }
      coefs := { s.coefs with combAp := bqCoeffs s.cfg .ap (mapCut v) s.params.combApRes F32.zero } })
    ∧ (∀ (v : Seven) (s : State), exec (.setCombApRes v) s = .next { s with
      params := { s.params with combApRes := mapRes v }
      coefs := { s.coefs with combAp := bqCoeffs s.cfg .ap s.params.combAp (mapRes v) F32.zero } })
    ∧ (∀ (v : Seven) (s : State), exec (.setCombKt v) s = .next { s with
      params := { s.params with combKt := mapUni v }
      slots := s.slots.map fun x => { x with combD := combDelay s.cfg (mapUni v) x.pitch } })
    ∧ (∀ (v : Seven) (s : State), exec (.setUfEnable v) s = .next { s with
      params := { s.params with ufEnable := decide (64 ≤ v.toNat) } })
    ∧ (∀ (v : Seven) (s : State), exec (.setUfCutoff v) s = .next { s with
      params := { s.params with ufCutoff := mapCut v }
      coefs := { s.coefs with uf := bqCoeffs s.cfg (ufBqType s.params.ufType) (mapCut v) s.params.ufRes s.params.ufShelf } })
    ∧ (∀ (v : Seven) (s : State), exec (.setUfRes v) s = .next { s with
      params := { s.params with ufRes := mapRes v }
      coefs := { s.coefs with uf := bqCoeffs s.cfg (ufBqType s.params.ufType) s.params.ufCutoff (mapRes v) s.params.ufShelf } })
    ∧ (∀ (v : Seven) (s : State), exec (.setUfShelf v) s = .next { s with
      params := { s.params with ufShelf := mapShelf v }
      coefs := { s.coefs with
        uf := bqCoeffs s.cfg (ufBqType s.params.ufType) s.params.ufCutoff s.params.ufRes (mapShelf v) } })

/-- SET UF_TYPE completes: 0 does nothing, any other value advances the type and clears the filter (49_control_map.md R451, 48_echo_delay_comb.md R371). -/
def Obligations.UfTypeSetAdvancesTheType : Prop :=
  (∀ s : State, exec (.setUfType 0) s = .next s) ∧
  (∀ (v : Seven) (s : State), v ≠ 0 → exec (.setUfType v) s = .next { s with
      params := { s.params with ufType := BitVec.ofNat 2 ((s.params.ufType.toNat + 1) % 4) }
      coefs := { s.coefs with
        uf := bqCoeffs s.cfg (ufBqType (BitVec.ofNat 2 ((s.params.ufType.toNat + 1) % 4)))
          s.params.ufCutoff s.params.ufRes s.params.ufShelf }
      bus := { s.bus with uf := ⟨⟨F32.zero, F32.zero⟩, ⟨F32.zero, F32.zero⟩⟩ } })

/-- The filter-type counter resets to LP, cycles through LP, HP, LS, HS, and is written by SET UF_TYPE and RESET only (R455). -/
def Obligations.UfTypeHasOneWriterBesidesReset : Prop :=
  (ufBqType 0 = .lp ∧ ufBqType 1 = .hp ∧ ufBqType 2 = .ls ∧ ufBqType 3 = .hs)
    ∧ (∀ cfg : Config, (State.resetOf cfg).params.ufType = 0)
    ∧ (∀ (v : Seven) (s : State), ∃ t, exec (.setUfType v) s = .next t ∧
        t.params.ufType.toNat = if v = 0 then s.params.ufType.toNat else (s.params.ufType.toNat + 1) % 4)
    ∧ (∀ s t : State, step s = .next t →
        (∀ w rest i, s.port = w :: rest → decode s.cfg w = .ok i → (∀ v, i ≠ .setUfType v) ∧ (∀ p, i ≠ .reset p)) →
        t.params.ufType = s.params.ufType)

/-- ENABLE(v) is 1 exactly when v is at least 64 (49_control_map.md R398). -/
def Obligations.EnableMapThreshold : Prop :=
  ∀ v : Seven, mapEnable v = true ↔ 64 ≤ v.toNat

/-- The value mappings at 0, 64 and 127 have the bit patterns the spec tabulates (49_control_map.md §2 (R383 to R399)). -/
def Obligations.MappingValues : Prop :=
  ∀ e ∈ ([(mapUni, 0x00000000, 0x3F010204, 0x3F800000), (mapBip, 0xBF800000, 0x00000000, 0x3F800000),
      (mapPan, 0x00000000, 0x3F000000, 0x3F800000), (mapCut, 0x41A00000, 0x4422307E, 0x469BB59C),
      (mapRes, 0xBF7FBE77, 0x00000000, 0x3F7FBE77), (mapShelf, 0xC1400000, 0x00000000, 0x413D0000),
      (mapDrive, 0x3F800000, 0x419185F6, 0x439E1D27), (mapTilt, 0xC2480000, 0x3EC99326, 0x42480000),
      (mapFluct, 0x00000000, 0x3D4E69A0, 0x3DCCCCCD), (mapCabLevel, 0x3B4F3E37, 0x3D6B9D60, 0x3F800000),
      (mapTime, 0x00000000, 0x3F418306, 0x3FC00000), (mapDecay, 0x00000000, 0x3EFF6F83, 0x3F7D70A4),
      (mapWet, 0x00000000, 0x3EE3070C, 0x3F800000), (mapDry, 0x3F800000, 0x3F0E7C7A, 0x00000000),
      (pitchFreq, 0x4102D013, 0x43A4D054, 0x4643FF6A)] : List ((Seven → F32) × BitVec 32 × BitVec 32 × BitVec 32)),
    e.1 0 = lit e.2.1 ∧ e.1 64 = lit e.2.2.1 ∧ e.1 127 = lit e.2.2.2

/-- No control change touches a slot's assignment, the lists or any delay line (49_control_map.md R382, 49_control_map.md R456). -/
def Obligations.ControlChangesLeaveTheVoices : Prop :=
  ∀ (k : Param) (v : Seven) (s t : State), exec (k.setInstr v) s = .next t →
    t.asg = s.asg ∧ t.rel = s.rel ∧ t.bus.echo = s.bus.echo ∧ t.slots.length = s.slots.length
      ∧ ∀ (u : Nat) (x : Slot), s.slots[u]? = some x → ∃ d, t.slots[u]? = some { x with combD := d }

/-- A control word sets the parameter CTRL_MAP selects (49_control_map.md R381, 49_control_map.md R382, 30_encoding.md R135). -/
def Obligations.ControlWordSetsTheMappedParameter : Prop :=
  ∀ (s : State) (rest : List PortWord) (id v : Seven), s.cfg.legal = true →
    s.port = commandWord s.cfg.sCtrl (dataByte id) (dataByte v) :: rest →
    step s = match s.cfg.ctrlMap[id.toNat]? with
      | some (some k) => thenStep (.next { s with port := rest, out := none }) fun u =>
          match Param.ofId? k with
          | some p => exec (p.setInstr v) u
          | none => .next u
      | _ => .next { s with port := rest, out := none }

/-- The CTRL instruction: an ID that selects no parameter changes nothing, one that selects a parameter sets it (49_control_map.md R382, 30_encoding.md R137). -/
def Obligations.CtrlInstructionLooksItsIdUp : Prop :=
  (∀ (id v : Seven) (s : State), s.cfg.paramOf id = none → exec (.ctrl id v) s = .next s)
    ∧ (∀ (id v : Seven) (s : State) (k : Param), s.cfg.paramOf id = some k → exec (.ctrl id v) s = exec (k.setInstr v) s)

/-- Two SETs of one parameter with nothing between leave what the second alone leaves (49_control_map.md R456, 41_smoother.md R192). -/
def Obligations.LastControlWriteWins : Prop :=
  ∀ (k : Param) (v w : Seven) (s : State), k ≠ .ufType →
    thenStep (exec (k.setInstr v) s) (exec (k.setInstr w)) = exec (k.setInstr w) s

/-- SETs of two different parameters with no TICK between them commute (49_control_map.md R456, 90_conflicts.md C12). -/
def Obligations.ControlWritesCommute : Prop :=
  ∀ (k q : Param) (v w : Seven) (s : State), k ≠ q →
    thenStep (exec (k.setInstr v) s) (exec (q.setInstr w)) = thenStep (exec (q.setInstr w) s) (exec (k.setInstr v))

/-- SET COMB_KT commutes with NOTE_ON (49_control_map.md R456, 90_conflicts.md C12). -/
def Obligations.KeyTrackingCommutesWithNoteOn : Prop :=
  ∀ (pitch vel v : Seven) (s : State),
    thenStep (exec (.noteOn pitch vel) s) (exec (.setCombKt v)) =
      thenStep (exec (.setCombKt v) s) (exec (.noteOn pitch vel))

/-- After RESET every delay line is in canonical form with its write index in range (20_memory.md R102, 48_echo_delay_comb.md R340, log 5). -/
def Obligations.ResetLinesAreCanonical : Prop :=
  State.reset.LinesInv

/-- Every step keeps every delay line canonical with its write index in range (20_memory.md R102, 20_memory.md R106, 48_echo_delay_comb.md R340, log 5). -/
def Obligations.EveryStepKeepsLinesCanonical : Prop :=
  ∀ s t : State, s.LinesInv → step s = .next t → t.LinesInv

/-- DL_write stores the sample at the write index and moves the index on by one around the line (48_echo_delay_comb.md R343, 48_echo_delay_comb.md R340, log 5). -/
def Obligations.DelayLineWriteStoresOneElement : Prop :=
  ∀ (k : Nat) (l : Line) (x : F32), Line.wf (2 ^ k) l = true →
    Memory.read (dlWrite (2 ^ k) l x).mem l.w = x
    ∧ (∀ j, j ≠ l.w → Memory.read (dlWrite (2 ^ k) l x).mem j = Memory.read l.mem j)
    ∧ (dlWrite (2 ^ k) l x).w = (l.w + 1) &&& (2 ^ k - 1)

/-- Tap k is the sample written k writes ago, and DL_read at the delay k gives it while the slopes of the taps are finite (48_echo_delay_comb.md R340, 48_echo_delay_comb.md R341, 48_echo_delay_comb.md R342, 48_echo_delay_comb.md R344, log 19). -/
def Obligations.TapIsTheSampleWrittenThatLongAgo : Prop :=
  (∀ (size : Nat) (l : Line) (xs : List F32) (k : Nat) (x : F32), Line.wf size l = true → xs.length ≤ size → 1 ≤ k →
    xs.reverse[k - 1]? = some x → (xs.foldl (dlWrite size) l).tap size k = x)
  ∧ (∀ (size : Nat) (l : Line) (xs : List F32) (k : Nat) (x : F32), Line.wf size l = true → xs.length ≤ size → 2 ≤ k →
    k + 2 ≤ size → size ≤ 16777216 → xs.reverse[k - 1]? = some x → x.isFinite = true →
    let tap := (xs.foldl (dlWrite size) l).tap size
    let a := F32.half.mul ((tap (k + 1)).sub (tap (k - 1)))
    let b := F32.half.mul ((tap (k + 2)).sub (tap k))
    let c := (tap k).sub (tap (k + 1))
    a.isFinite = true → ((a.add b).add (F32.two.mul c)).isFinite = true →
    (((F32.two.mul a).add b).add ((lit 0x40400000).mul c)).isFinite = true →
    x.PassesAs (dlRead size (xs.foldl (dlWrite size) l) (F32.ofNat k)))

/-- TICK stores one element in every delay line, at its write index, and changes no other element (20_memory.md R107, 40_voice_allocator.md R173, 48_echo_delay_comb.md R343, 48_echo_delay_comb.md R350, 48_echo_delay_comb.md R363, log 5). -/
def Obligations.TickWritesOneElementOfEachLine : Prop :=
  ∀ (payload : BitVec 24) (s : State), ∃ t, exec (.tick payload) s = .next t ∧ t.slots.length = s.slots.length
    ∧ (∀ (u : Nat) (x : Slot) (m : Module), s.slots[u]? = some x → ∃ y, t.slots[u]? = some y
        ∧ (y.comb.get m).line.w = ((x.comb.get m).line.w + 1) % s.cfg.combBuf
        ∧ (∀ j, j ≠ (x.comb.get m).line.w →
            Memory.read (y.comb.get m).line.mem j = Memory.read (x.comb.get m).line.mem j)
        ∧ (Line.wf s.cfg.combBuf (x.comb.get m).line = true →
            let g := sgTick s.cfg t.params s.coefs x
            let tap := dlRead s.cfg.combBuf (x.comb.get m).line x.combD
            Memory.read (y.comb.get m).line.mem (x.comb.get m).line.w =
              ((⟨g.1, g.2.1⟩ : PerModule F32).get m).add
                (t.params.combDecay.cur.mul (bqTick s.cfg.dnc s.coefs.combAp (x.comb.get m).ap tap).1)))
    ∧ (∀ c : Channel, (t.bus.echo.get c).line.w = ((s.bus.echo.get c).line.w + 1) % s.cfg.echoBuf
        ∧ (∀ j, j ≠ (s.bus.echo.get c).line.w →
            Memory.read (t.bus.echo.get c).line.mem j = Memory.read (s.bus.echo.get c).line.mem j)
        ∧ (Line.wf s.cfg.echoBuf (s.bus.echo.get c).line = true →
            let v := voicePass s.cfg t.params s.coefs s.slots F32.zero F32.zero
            let mixed := (mixPostTick s.cfg t.params s.coefs (s.bus.mixHp.get c) ((⟨v.2.1, v.2.2⟩ : PerChannel F32).get c)).1
            Memory.read (t.bus.echo.get c).line.mem (s.bus.echo.get c).line.w =
              ((cabTick s.cfg t.params s.coefs (s.bus.cab.get c) mixed).1.add
                ((s.bus.echo.get c).hist.mul t.params.echoFb.cur)).add
                  ((s.bus.echo.get c.other).hist.mul t.params.echoXfb.cur)))

/-- TICK leaves the assignment, links, frequency and comb delay of every slot, and steps each generator as its rule says (43_oscillator.md R250, 43_oscillator.md R252, 43_oscillator.md R253, 43_oscillator.md R254, 43_oscillator.md R255, 40_voice_allocator.md R168). -/
def Obligations.TickKeepsTheAssignmentOfEverySlot : Prop :=
  ∀ (payload : BitVec 24) (s t : State) (u : Nat) (x y : Slot) (m : Module), exec (.tick payload) s = .next t →
    s.slots[u]? = some x → t.slots[u]? = some y →
    y.tag = x.tag ∧ y.pitch = x.pitch ∧ y.vel = x.vel ∧ y.next = x.next ∧ y.prev = x.prev ∧ y.combD = x.combD
      ∧ (y.osc.get m).f0 = (x.osc.get m).f0
      ∧ (y.osc.get m).p = ((x.osc.get m).p.add (x.osc.get m).inc).sub
          (((x.osc.get m).p.add (x.osc.get m).inc).add F32.half).floor
      ∧ (((y.osc.get m).p.sub (x.osc.get m).p).abs.gt F32.half = false →
          (y.osc.get m).s = (x.osc.get m).s ∧ (y.osc.get m).r = (x.osc.get m).r ∧ (y.osc.get m).inc = (x.osc.get m).inc)
      ∧ (((y.osc.get m).p.sub (x.osc.get m).p).abs.gt F32.half = true →
          (y.osc.get m).s.toNat = (1103515245 * (x.osc.get m).s.toNat + 12345) % 4294967296
          ∧ (y.osc.get m).r = (F32.ofInt (y.osc.get m).s.toInt).mul (lit 0x30000000)
          ∧ (y.osc.get m).inc = ((y.osc.get m).f0.add
              (((y.osc.get m).r.mul (t.params.mods.get m).fluct.cur).mul (y.osc.get m).f0)).div s.cfg.fs)

/-- TICK completes: smoothing, voice pass, mixer post stage, cabinet, echo, utility filter, in that order, and the pair (40_voice_allocator.md R170, 40_voice_allocator.md R171, 20_memory.md R105). -/
def Obligations.TickRunsTheStagesInOrder : Prop :=
  ∀ (payload : BitVec 24) (s : State),
    let P := s.params.mapRamps (advance (rampInc s.cfg))
    let v := voicePass s.cfg P s.coefs s.slots F32.zero F32.zero
    let ml := mixPostTick s.cfg P s.coefs s.bus.mixHp.l v.2.1
    let mr := mixPostTick s.cfg P s.coefs s.bus.mixHp.r v.2.2
    let cl := cabTick s.cfg P s.coefs s.bus.cab.l ml.1
    let cr := cabTick s.cfg P s.coefs s.bus.cab.r mr.1
    let e := echoTick s.cfg P s.coefs s.bus.echo cl.1 cr.1
    let u := ufStage s.cfg P s.coefs s.bus.uf e.1 e.2.1
    exec (.tick payload) s = .next { s with
      params := P
      slots := v.1
      bus := { mixHp := ⟨ml.2, mr.2⟩, cab := ⟨cl.2, cr.2⟩, echo := e.2.2, uf := u.2.2 }
      out := some (u.1.toBits (Config.nanPattern s.nanDraws), u.2.1.toBits (Config.nanPattern (s.nanDraws + 1)))
      nanDraws := s.nanDraws + 2 }

/-- With UF_ENABLE clear the stage is skipped: its histories hold and the echo's pair is what TICK returns (48_echo_delay_comb.md R370, 40_voice_allocator.md R170, 20_memory.md R105, log 1). -/
def Obligations.DisabledUtilityFilterHoldsItsHistories : Prop :=
  ∀ (payload : BitVec 24) (s : State), s.params.ufEnable = false →
    ∃ t, exec (.tick payload) s = .next t ∧ t.bus.uf = s.bus.uf
    ∧ (let v := voicePass s.cfg t.params s.coefs s.slots F32.zero F32.zero
       let ml := mixPostTick s.cfg t.params s.coefs s.bus.mixHp.l v.2.1
       let mr := mixPostTick s.cfg t.params s.coefs s.bus.mixHp.r v.2.2
       let cl := cabTick s.cfg t.params s.coefs s.bus.cab.l ml.1
       let cr := cabTick s.cfg t.params s.coefs s.bus.cab.r mr.1
       let e := echoTick s.cfg t.params s.coefs s.bus.echo cl.1 cr.1
       t.out = some (e.1.toBits (Config.nanPattern s.nanDraws), e.2.1.toBits (Config.nanPattern (s.nanDraws + 1))))
    ∧ ∀ coefs', ∃ t', exec (.tick payload) { s with coefs := { s.coefs with uf := coefs' } } = .next t' ∧ t'.out = t.out

/-- A slot's tag has no effect on a TICK (40_voice_allocator.md R168). -/
def Obligations.ReleasedSlotsRunAsAssignedOnes : Prop :=
  ∀ (payload : BitVec 24) (s t : State), exec (.tick payload) s = .next t →
    exec (.tick payload) { s with slots := s.slots.map fun x => { x with tag := .free } } =
      .next { t with slots := t.slots.map fun x => { x with tag := .free } }

/-- FRAMES and PORT_ATTACH affect no step (20_memory.md R103, 20_memory.md R117). -/
def Obligations.FramesAndPortAttachAreNotRead : Prop :=
  ∀ (s t : State) (f : Nat) (a : PortAttach), step s = .next t →
    step { s with cfg := { s.cfg with frames := f, portAttach := a } } =
      .next { t with cfg := { t.cfg with frames := f, portAttach := a } }

/-- The payload of TICK, RESET and a reserved word has no effect, and a reserved word changes nothing (30_encoding.md R132, 30_encoding.md R137). -/
def Obligations.PayloadsAreIgnored : Prop :=
  ∀ (p q : BitVec 24) (s : State), exec (.tick p) s = exec (.tick q) s ∧ exec (.reset p) s = exec (.reset q) s
    ∧ exec (.reserved p) s = .next s

/-- Binary32 addition and subtraction are the exact result rounded to nearest, ties to even (00_scope.md R12). -/
def Obligations.AdditionRoundsToNearestEven : Prop :=
  ∀ x y : F32, x.isFinite = true → y.isFinite = true →
    (x.add y).IsNearest (x.value149 + y.value149) 149 ∧ (x.sub y).IsNearest (x.value149 - y.value149) 149

/-- Binary32 multiplication is the exact product rounded to nearest, ties to even (00_scope.md R12). -/
def Obligations.MultiplicationRoundsToNearestEven : Prop :=
  ∀ x y : F32, x.isFinite = true → y.isFinite = true → (x.mul y).IsNearest (x.value149 * y.value149) 298

/-- The cabinet at mix 0, the comb at mix 0 and the echo at dry 1, wet 0 pass a finite sample while the wet signal is finite (47_cabinet.md R325, 48_echo_delay_comb.md R365, 48_echo_delay_comb.md R354, log 20). -/
def Obligations.DryCrossfadePassesTheSample : Prop :=
  ∀ (cfg : Config) (P : Params) (C : Coefs) (x : F32), x.isFinite = true →
    (∀ h : CabChan, P.cabMix.cur = F32.zero →
      let hp := (bqTick cfg.dnc C.cab.hp h.hp (x.mul P.cabDrive.cur)).1
      let t1 := (bqTick cfg.dnc C.cab.t1 h.t1 hp).1
      let y := (shaperCab cfg.dnc C.cabH30 h.h30 t1 P.cabFold.cur P.cabAsym.cur).1
      let t2 := (bqTick cfg.dnc C.cab.t2 h.t2 y).1
      let l1 := (bqTick cfg.dnc C.cab.lp1 h.lp1 t2).1
      let l2 := (bqTick cfg.dnc C.cab.lp2 h.lp2 l1).1
      x.DryPass (l2.mul P.cabLevel.cur) (cabTick cfg P C h x).1)
    ∧ (∀ (decay d : F32) (c : Comb),
      x.DryPass (x.add (decay.mul (bqTick cfg.dnc C.combAp c.ap (dlRead cfg.combBuf c.line d)).1))
        (combTick cfg C.combAp decay F32.zero d c x).1)
    ∧ (∀ (e : EchoChan) (own other target : F32), P.echoDry.cur = F32.one → P.echoWet.cur = F32.zero →
      let tap := dlRead cfg.echoBuf e.line (e.d.add ((echoW cfg).mul (target.sub e.d)))
      let lp := (opTick cfg.dnc C.echoLp e.lp tap).1
      x.DryPass (opTick cfg.dnc C.echoHp e.hp lp).1 (echoChanTick cfg P C e x own other target).1)

/-- The pattern a TICK returns reads back as the value that left the block, whatever the free NaN pattern is (20_memory.md R105, 60_exceptions.md R463, 60_exceptions.md R475, log 1). -/
def Obligations.OutputPatternReadsBackAsTheValue : Prop :=
  ∀ (n : Nat) (x : F32), F32.ofBits (x.toBits (Config.nanPattern n)) = x

/-- Binary32 division and square root are the exact result rounded to nearest, ties to even (00_scope.md R12). -/
def Obligations.DivisionAndSquareRootRoundToNearestEven : Prop :=
  (∀ x y : F32, x.isFinite = true → y.isFinite = true → y.value149 ≠ 0 →
      (x.div y).IsNearestQuot (x.value149 * y.value149.sign * 2 ^ 149) y.value149.natAbs 149)
    ∧ (∀ mag : Fin 0x7F800000, ∃ r : Fin 0x7F800000, (F32.fin false mag).sqrt = .fin false r ∧ ∀ m : Fin 0x7F800000,
        (r < m → F32.value149 (.fin false mag) * 2 ^ 151 < (F32.value149 (.fin false r) + F32.value149 (.fin false m)) ^ 2)
        ∧ (m < r → (F32.value149 (.fin false r) + F32.value149 (.fin false m)) ^ 2 < F32.value149 (.fin false mag) * 2 ^ 151))
    ∧ (∀ mag : Fin 0x7F800000, (F32.fin true mag).sqrt = if mag = 0 then .fin true 0 else .nan)

/-- TICK written out from the pseudocode of the rules (for an infinite phase modulation, where a rule's prose disagrees, that is the model's choice, log 17) (45_soundgenerator.md R280 to R283, 43_oscillator.md R250, 42_filters.md R219, R241, 44_shaper.md R271, 44_shaper.md R274, 46_outputmixer.md R300 to R304, 47_cabinet.md R321, 48_echo_delay_comb.md R350, R351, 48_echo_delay_comb.md R363, 48_echo_delay_comb.md R370, log 1, log 17). -/
def Obligations.TickComputesEveryStageAsTheRulesSay : Prop :=
  ∀ (payload : BitVec 24) (s : State),
    let P := s.params.mapRamps (advance (rampInc s.cfg))
    let C := s.coefs
    let dnc := s.cfg.dnc
    let bqY := fun (k : BqCoef) (h : Hist2) (x : F32) => (k.b0.mul (x.add dnc)).add h.s1
    let bqH := fun (k : BqCoef) (h : Hist2) (x : F32) => Hist2.mk
      (((k.b1.mul (x.add dnc)).sub (k.a1.mul (bqY k h x))).add h.s2) ((k.b2.mul (x.add dnc)).sub (k.a2.mul (bqY k h x)))
    let opY := fun (k : OpCoef) (h : Hist1) (x : F32) => (k.b0.mul (x.add dnc)).add h.s1
    let opH := fun (k : OpCoef) (h : Hist1) (x : F32) => Hist1.mk ((k.b1.mul (x.add dnc)).sub (k.a1.mul (opY k h x)))
    let fold := fun (x drive f : F32) =>
      let ctrl := (x.mul drive).mul F32.quarter
      if ctrl.lt F32.quarter.neg = true then (((sin3 ctrl).add F32.one).mul f).sub F32.one
      else if ctrl.gt F32.quarter = true then (((sin3 ctrl).sub F32.one).mul f).add F32.one
      else sin3 ctrl
    let blend := fun (asym y term : F32) => ((F32.one.sub asym).mul y).add ((F32.two.mul asym).mul term)
    let shape := fun (x drive f asym : F32) =>
      blend asym (fold x drive f) (((fold x drive f).mul (fold x drive f)).sub F32.half)
    let bx := fun (a b m : F32) => ((F32.one.sub m.abs).mul a).add (m.mul b)
    let pm := fun (x : Slot) (m : Module) => ((x.selfMix.get m).mul (P.mods.get m).pmSelf.cur).add
      ((x.crossMix.get m.other).mul (P.mods.get m).pmCross.cur)
    let osc := fun (x : Slot) (m : Module) =>
      sin3 ((x.osc.get m).p.add (opY (C.chirp.get m) (x.osc.get m).chirp (pm x m)))
    let shaped := fun (x : Slot) (m : Module) =>
      shape (osc x m) (P.mods.get m).drive.cur (P.mods.get m).fold.cur (P.mods.get m).asym.cur
    let main := fun (x : Slot) (m : Module) => bx (osc x m) (shaped x m) (P.mods.get m).mainMix.cur
    let res := fun (x : Slot) (m : Module) => ((F32.one.sub (P.mods.get m).ring.cur).mul (main x m)).add
      ((P.mods.get m).ring.cur.mul ((main x .a).mul (main x .b)))
    let tap := fun (x : Slot) (m : Module) => dlRead s.cfg.combBuf (x.comb.get m).line x.combD
    let fed := fun (x : Slot) (m : Module) =>
      (res x m).add (P.combDecay.cur.mul (bqY C.combAp (x.comb.get m).ap (tap x m)))
    let voice := fun (x : Slot) (m : Module) =>
      ((F32.one.sub P.combMix.cur).mul (res x m)).add (P.combMix.cur.mul (fed x m))
    let kp := fun (x : Slot) => P.keypan.cur.mul ((F32.ofInt ((x.pitch.toNat : Int) - 60)).mul (lit 0x3C000000))
    let pan := fun (x : Slot) (m : Module) => ((kp x).add (P.mods.get m).pan.cur).clamp F32.zero F32.one
    let gain := fun (x : Slot) (m : Module) (c : Channel) =>
      (if c = .l then F32.one.sub (pan x m) else pan x m).mul (P.mods.get m).level.cur
    let sum := fun (c : Channel) => s.slots.foldl (fun acc x => acc.add
      ((((voice x .a).mul (gain x .a c)).add ((voice x .b).mul (gain x .b c))).mul x.vel)) F32.zero
    let post := fun (c : Channel) => shape (sum c) P.mixDrive.cur P.mixFold.cur P.mixAsym.cur
    let mixed := fun (c : Channel) => (opY C.mixHp (s.bus.mixHp.get c) (post c)).mul
      ((P.mixLevel.cur.mul P.mixLevel.cur).mul (lit 0x3F23D70A))
    let cab := s.bus.cab
    let c1 := fun (c : Channel) => (mixed c).mul P.cabDrive.cur
    let c2 := fun (c : Channel) => bqY C.cab.hp (cab.get c).hp (c1 c)
    let c3 := fun (c : Channel) => fold (bqY C.cab.t1 (cab.get c).t1 (c2 c)) F32.one P.cabFold.cur
    let c4 := fun (c : Channel) =>
      blend P.cabAsym.cur (c3 c) (opY C.cabH30 (cab.get c).h30 ((c3 c).mul (c3 c)))
    let c5 := fun (c : Channel) => bqY C.cab.t2 (cab.get c).t2 (c4 c)
    let c6 := fun (c : Channel) => bqY C.cab.lp1 (cab.get c).lp1 (c5 c)
    let c7 := fun (c : Channel) => bqY C.cab.lp2 (cab.get c).lp2 (c6 c)
    let cabOut := fun (c : Channel) => ((F32.one.sub P.cabMix.cur).mul (mixed c)).add
      (P.cabMix.cur.mul ((c7 c).mul P.cabLevel.cur))
    let echo := s.bus.echo
    let spread := F32.half.mul P.echoStereo
    let time := fun (c : Channel) => P.echoTime.mul (if c = .l then F32.one.add spread else F32.one.sub spread)
    let target := fun (c : Channel) => ((time c).mul s.cfg.fs).clamp F32.two (F32.ofNat (s.cfg.echoBuf - 2))
    let delay := fun (c : Channel) => (echo.get c).d.add ((echoW s.cfg).mul ((target c).sub (echo.get c).d))
    let input := fun (c : Channel) => ((cabOut c).add ((echo.get c).hist.mul P.echoFb.cur)).add
      ((echo.get c.other).hist.mul P.echoXfb.cur)
    let read := fun (c : Channel) => dlRead s.cfg.echoBuf (echo.get c).line (delay c)
    let e1 := fun (c : Channel) => opY C.echoLp (echo.get c).lp (read c)
    let e2 := fun (c : Channel) => opY C.echoHp (echo.get c).hp (e1 c)
    let y := fun (c : Channel) => (P.echoDry.cur.mul (cabOut c)).add (P.echoWet.cur.mul (e2 c))
    let out := fun (c : Channel) => if P.ufEnable = true then bqY C.uf (s.bus.uf.get c) (y c) else y c
    ∃ t, exec (.tick payload) s = .next t
      ∧ (∀ (u : Nat) (x : Slot) (m : Module), s.slots[u]? = some x → ∃ z, t.slots[u]? = some z
          ∧ (z.osc.get m).chirp = opH (C.chirp.get m) (x.osc.get m).chirp (pm x m)
          ∧ z.selfMix.get m = bx (osc x m) (shaped x m) (P.mods.get m).pmSelfShp.cur
          ∧ z.crossMix.get m = bx (osc x m) (shaped x m) (P.mods.get m).pmCrossShp.cur
          ∧ (z.comb.get m).line = dlWrite s.cfg.combBuf (x.comb.get m).line (fed x m)
          ∧ (z.comb.get m).ap = bqH C.combAp (x.comb.get m).ap (tap x m))
      ∧ (∀ c : Channel, t.bus.mixHp.get c = opH C.mixHp (s.bus.mixHp.get c) (post c)
          ∧ (t.bus.cab.get c).hp = bqH C.cab.hp (cab.get c).hp (c1 c)
          ∧ (t.bus.cab.get c).t1 = bqH C.cab.t1 (cab.get c).t1 (c2 c)
          ∧ (t.bus.cab.get c).h30 = opH C.cabH30 (cab.get c).h30 ((c3 c).mul (c3 c))
          ∧ (t.bus.cab.get c).t2 = bqH C.cab.t2 (cab.get c).t2 (c4 c)
          ∧ (t.bus.cab.get c).lp1 = bqH C.cab.lp1 (cab.get c).lp1 (c5 c)
          ∧ (t.bus.cab.get c).lp2 = bqH C.cab.lp2 (cab.get c).lp2 (c6 c)
          ∧ (t.bus.echo.get c).line = dlWrite s.cfg.echoBuf (echo.get c).line (input c)
          ∧ (t.bus.echo.get c).d = delay c
          ∧ (t.bus.echo.get c).hist = e2 c
          ∧ (t.bus.echo.get c).lp = opH C.echoLp (echo.get c).lp (read c)
          ∧ (t.bus.echo.get c).hp = opH C.echoHp (echo.get c).hp (e1 c)
          ∧ t.bus.uf.get c = if P.ufEnable = true then bqH C.uf (s.bus.uf.get c) (y c) else s.bus.uf.get c)
      ∧ t.out = some ((out .l).toBits (Config.nanPattern s.nanDraws), (out .r).toBits (Config.nanPattern (s.nanDraws + 1)))
end

