-- ==== Sys2Proof/Laws/Memory.lean ====
section
/-! SUPPORT. The delay-line memory: a read after a write, and every memory operation keeps the canonical form. -/

namespace Sys2Proof

/-- The canonical form above a bound holds above every lower bound. -/
theorem Memory.wfFrom_mono {size lo lo' : Nat} {m : Memory} (h : Memory.wfFrom size lo m = true) (hl : lo' ≤ lo) :
    Memory.wfFrom size lo' m = true := by
  cases m with
  | nil => rfl
  | cons e rest =>
    obtain ⟨i, x⟩ := e
    simp only [Memory.wfFrom, Bool.and_eq_true, decide_eq_true_eq] at h ⊢
    exact ⟨⟨⟨by omega, h.1.1.2⟩, h.1.2⟩, h.2⟩

/-- An element below the bound of a canonical memory is not listed. -/
theorem Memory.read_below {size lo k : Nat} {m : Memory} (h : Memory.wfFrom size lo m = true) (hk : k < lo) :
    Memory.read m k = Memory.unlisted := by
  induction m generalizing lo with
  | nil => rfl
  | cons e rest ih =>
    obtain ⟨i, x⟩ := e
    simp only [Memory.wfFrom, Bool.and_eq_true, decide_eq_true_eq] at h
    rw [Memory.read, if_neg (by omega)]
    exact ih h.2 (by omega)

/-- Reading the element that was written gives the value written. -/
theorem Memory.read_write_same {size lo k : Nat} {m : Memory} (x : F32) (h : Memory.wfFrom size lo m = true) :
    Memory.read (Memory.write m k x) k = x := by
  induction m generalizing lo with
  | nil => by_cases hx : x = Memory.unlisted <;> simp [Memory.write, Memory.read, hx]
  | cons e rest ih =>
    obtain ⟨i, y⟩ := e
    simp only [Memory.wfFrom, Bool.and_eq_true, decide_eq_true_eq] at h
    have hb : ∀ j, j ≤ i → Memory.read rest j = Memory.unlisted := fun j hj => Memory.read_below h.2 (by omega)
    rcases Nat.lt_trichotomy k i with hk | hk | hk
    · by_cases hx : x = Memory.unlisted <;> simp [Memory.write, Memory.read, hx, hk]
      rw [if_neg (by omega)]; exact hb k (by omega)
    · subst hk
      by_cases hx : x = Memory.unlisted <;> simp [Memory.write, Memory.read, hx]
      exact hb k (by omega)
    · have h1 : ¬ k < i := by omega
      have h2 : ¬ k = i := by omega
      have h3 : ¬ i = k := by omega
      simp only [Memory.write, h1, h2, if_false, Memory.read, h3]
      exact ih h.2

/-- A write leaves every other element as it was. -/
theorem Memory.read_write_other {k j : Nat} (m : Memory) (x : F32) (hj : j ≠ k) :
    Memory.read (Memory.write m k x) j = Memory.read m j := by
  induction m with
  | nil => by_cases hx : x = Memory.unlisted <;> simp [Memory.write, Memory.read, hx]; omega
  | cons e rest ih =>
    obtain ⟨i, y⟩ := e
    by_cases h1 : k < i
    · by_cases hx : x = Memory.unlisted <;> simp [Memory.write, Memory.read, hx, h1]
      intro h3; exact absurd h3.symm hj
    · by_cases h2 : k = i
      · subst h2
        have h3 : ¬ k = j := fun h => hj h.symm
        by_cases hx : x = Memory.unlisted <;> simp [Memory.write, Memory.read, hx, h3]
      · simp only [Memory.write, h1, h2, if_false, Memory.read, ih]

/-- A write at an index at or above the bound and below the size keeps the canonical form. -/
theorem Memory.wfFrom_write {size lo k : Nat} {m : Memory} (x : F32) (h : Memory.wfFrom size lo m = true) (hl : lo ≤ k)
    (hk : k < size) : Memory.wfFrom size lo (Memory.write m k x) = true := by
  induction m generalizing lo with
  | nil => by_cases hx : x = Memory.unlisted <;> simp [Memory.write, Memory.wfFrom, hx, hl, hk]
  | cons e rest ih =>
    obtain ⟨i, y⟩ := e
    have h0 := h
    simp only [Memory.wfFrom, Bool.and_eq_true, decide_eq_true_eq] at h
    obtain ⟨⟨⟨ha, hb⟩, hc⟩, hd⟩ := h
    rcases Nat.lt_trichotomy k i with hki | hki | hki
    · by_cases hx : x = Memory.unlisted
      · simpa [Memory.write, hx, hki] using h0
      · have : k + 1 ≤ i := by omega
        simp [Memory.write, Memory.wfFrom, hx, hki, hl, hk, this, hb, hc, hd]
    · subst hki
      by_cases hx : x = Memory.unlisted
      · simpa [Memory.write, hx] using Memory.wfFrom_mono hd (by omega)
      · simp [Memory.write, Memory.wfFrom, hx, hl, hk, hd]
    · have h1 : ¬ k < i := by omega
      have h2 : ¬ k = i := by omega
      simp only [Memory.write, h1, h2, if_false, Memory.wfFrom, Bool.and_eq_true, decide_eq_true_eq]
      exact ⟨⟨⟨ha, hb⟩, hc⟩, ih hd (by omega)⟩

/-- `DL_write` keeps a line in canonical form with its index in range. -/
theorem Line.wf_dlWrite {size : Nat} {l : Line} (x : F32) (h : Line.wf size l = true) :
    Line.wf size (dlWrite size l x) = true := by
  simp only [Line.wf, Bool.and_eq_true, decide_eq_true_eq] at h ⊢
  exact ⟨Nat.mod_lt _ (by omega), Memory.wfFrom_write x h.2 (by omega) h.1⟩

/-- The line RESET leaves is in canonical form. -/
theorem Line.wf_clear {size : Nat} (h : 0 < size) : Line.wf size Line.clear = true := by
  simp [Line.wf, Line.clear, Memory.wf, Memory.wfFrom, h]

/-- What `DL_write` does to a canonical line: the element at the write index is the sample, no other element changes, and
the index moves on by one around the line. -/
theorem dlWrite_spec {size : Nat} {l : Line} (x : F32) (h : Line.wf size l = true) :
    Memory.read (dlWrite size l x).mem l.w = x ∧ (∀ j, j ≠ l.w → Memory.read (dlWrite size l x).mem j = Memory.read l.mem j)
      ∧ (dlWrite size l x).w = (l.w + 1) % size := by
  simp only [Line.wf, Bool.and_eq_true, decide_eq_true_eq] at h
  exact ⟨Memory.read_write_same x h.2, fun j hj => Memory.read_write_other _ x hj, rfl⟩

/-- What a comb step does to its line: one `DL_write` (R363). -/
theorem combTick_line (cfg : Config) (apSet : BqCoef) (decay mx d : F32) (c : Comb) (x : F32) :
    ∃ w, (combTick cfg apSet decay mx d c x).2.line = dlWrite cfg.combBuf c.line w := ⟨_, rfl⟩

/-- What an echo channel's step does to its line: one `DL_write` (R350). -/
theorem echoChanTick_line (cfg : Config) (P : Params) (C : Coefs) (e : EchoChan) (x own other target : F32) :
    ∃ w, (echoChanTick cfg P C e x own other target).2.line = dlWrite cfg.echoBuf e.line w := ⟨_, rfl⟩

/-- Every delay line of the state that RESET leaves is in canonical form. -/
theorem Machine.State.linesInv_resetOf (cfg : Config) (he : 0 < cfg.echoBuf) (hc : 0 < cfg.combBuf) :
    (Machine.State.resetOf cfg).LinesInv := by
  refine ⟨he, hc, ?_, ?_⟩
  · intro x hx m
    simp only [Machine.State.resetOf, resetSlots, List.mem_map] at hx
    obtain ⟨v, -, rfl⟩ := hx
    cases m <;> exact Line.wf_clear hc
  · intro c
    cases c <;> exact Line.wf_clear he

/-- The reset state's memory is in canonical form. -/
theorem Machine.State.linesInv_reset : Machine.State.reset.LinesInv :=
  Machine.State.linesInv_resetOf _ (by decide) (by decide)

end Sys2Proof
end

