-- ==== Sys2Proof/Laws/State.lean ====
section
/-! SUPPORT. One lemma per field per update of the state: what each named operation of `Machine/Ops.lean` leaves as it was
and what it writes. -/

namespace Sys2Proof.Machine

@[simp] theorem State.taken_cfg (s : State) (rest : List PortWord) : (s.taken rest).cfg = s.cfg := rfl
@[simp] theorem State.taken_port (s : State) (rest : List PortWord) : (s.taken rest).port = rest := rfl
@[simp] theorem State.taken_out (s : State) (rest : List PortWord) : (s.taken rest).out = none := rfl
@[simp] theorem State.taken_nanDraws (s : State) (rest : List PortWord) : (s.taken rest).nanDraws = s.nanDraws := rfl
@[simp] theorem State.taken_slots (s : State) (rest : List PortWord) : (s.taken rest).slots = s.slots := rfl
@[simp] theorem State.taken_asg (s : State) (rest : List PortWord) : (s.taken rest).asg = s.asg := rfl
@[simp] theorem State.taken_rel (s : State) (rest : List PortWord) : (s.taken rest).rel = s.rel := rfl
@[simp] theorem State.taken_params (s : State) (rest : List PortWord) : (s.taken rest).params = s.params := rfl
@[simp] theorem State.taken_coefs (s : State) (rest : List PortWord) : (s.taken rest).coefs = s.coefs := rfl
@[simp] theorem State.taken_bus (s : State) (rest : List PortWord) : (s.taken rest).bus = s.bus := rfl

@[simp] theorem State.modifySlot_cfg (s : State) (v : Nat) (f : Slot → Slot) : (s.modifySlot v f).cfg = s.cfg := rfl
@[simp] theorem State.modifySlot_port (s : State) (v : Nat) (f : Slot → Slot) : (s.modifySlot v f).port = s.port := rfl
@[simp] theorem State.modifySlot_out (s : State) (v : Nat) (f : Slot → Slot) : (s.modifySlot v f).out = s.out := rfl
@[simp] theorem State.modifySlot_nanDraws (s : State) (v : Nat) (f : Slot → Slot) : (s.modifySlot v f).nanDraws = s.nanDraws := rfl
@[simp] theorem State.modifySlot_slots (s : State) (v : Nat) (f : Slot → Slot) : (s.modifySlot v f).slots = s.slots.modify v f := rfl
@[simp] theorem State.modifySlot_asg (s : State) (v : Nat) (f : Slot → Slot) : (s.modifySlot v f).asg = s.asg := rfl
@[simp] theorem State.modifySlot_rel (s : State) (v : Nat) (f : Slot → Slot) : (s.modifySlot v f).rel = s.rel := rfl
@[simp] theorem State.modifySlot_params (s : State) (v : Nat) (f : Slot → Slot) : (s.modifySlot v f).params = s.params := rfl
@[simp] theorem State.modifySlot_coefs (s : State) (v : Nat) (f : Slot → Slot) : (s.modifySlot v f).coefs = s.coefs := rfl
@[simp] theorem State.modifySlot_bus (s : State) (v : Nat) (f : Slot → Slot) : (s.modifySlot v f).bus = s.bus := rfl

@[simp] theorem State.setParams_cfg (s : State) (P : Params) : (s.setParams P).cfg = s.cfg := rfl
@[simp] theorem State.setParams_port (s : State) (P : Params) : (s.setParams P).port = s.port := rfl
@[simp] theorem State.setParams_out (s : State) (P : Params) : (s.setParams P).out = s.out := rfl
@[simp] theorem State.setParams_nanDraws (s : State) (P : Params) : (s.setParams P).nanDraws = s.nanDraws := rfl
@[simp] theorem State.setParams_slots (s : State) (P : Params) : (s.setParams P).slots = s.slots := rfl
@[simp] theorem State.setParams_asg (s : State) (P : Params) : (s.setParams P).asg = s.asg := rfl
@[simp] theorem State.setParams_rel (s : State) (P : Params) : (s.setParams P).rel = s.rel := rfl
@[simp] theorem State.setParams_params (s : State) (P : Params) : (s.setParams P).params = P := rfl
@[simp] theorem State.setParams_coefs (s : State) (P : Params) : (s.setParams P).coefs = s.coefs := rfl
@[simp] theorem State.setParams_bus (s : State) (P : Params) : (s.setParams P).bus = s.bus := rfl

@[simp] theorem State.startRamp_cfg (s : State) (r : RampReg) (t : F32) : (s.startRamp r t).cfg = s.cfg := rfl
@[simp] theorem State.startRamp_port (s : State) (r : RampReg) (t : F32) : (s.startRamp r t).port = s.port := rfl
@[simp] theorem State.startRamp_out (s : State) (r : RampReg) (t : F32) : (s.startRamp r t).out = s.out := rfl
@[simp] theorem State.startRamp_nanDraws (s : State) (r : RampReg) (t : F32) : (s.startRamp r t).nanDraws = s.nanDraws := rfl
@[simp] theorem State.startRamp_slots (s : State) (r : RampReg) (t : F32) : (s.startRamp r t).slots = s.slots := rfl
@[simp] theorem State.startRamp_asg (s : State) (r : RampReg) (t : F32) : (s.startRamp r t).asg = s.asg := rfl
@[simp] theorem State.startRamp_rel (s : State) (r : RampReg) (t : F32) : (s.startRamp r t).rel = s.rel := rfl
@[simp] theorem State.startRamp_params (s : State) (r : RampReg) (t : F32) : (s.startRamp r t).params = s.params.setRamp (initRamp (s.params.ramp r) t) r := rfl
@[simp] theorem State.startRamp_coefs (s : State) (r : RampReg) (t : F32) : (s.startRamp r t).coefs = s.coefs := rfl
@[simp] theorem State.startRamp_bus (s : State) (r : RampReg) (t : F32) : (s.startRamp r t).bus = s.bus := rfl

@[simp] theorem State.setPitch_cfg (s : State) (v : Nat) (p : Seven) : (s.setPitch v p).cfg = s.cfg := rfl
@[simp] theorem State.setPitch_port (s : State) (v : Nat) (p : Seven) : (s.setPitch v p).port = s.port := rfl
@[simp] theorem State.setPitch_out (s : State) (v : Nat) (p : Seven) : (s.setPitch v p).out = s.out := rfl
@[simp] theorem State.setPitch_nanDraws (s : State) (v : Nat) (p : Seven) : (s.setPitch v p).nanDraws = s.nanDraws := rfl
@[simp] theorem State.setPitch_slots (s : State) (v : Nat) (p : Seven) : (s.setPitch v p).slots = s.slots.modify v (Slot.setPitch s.cfg s.params p) := rfl
@[simp] theorem State.setPitch_asg (s : State) (v : Nat) (p : Seven) : (s.setPitch v p).asg = s.asg := rfl
@[simp] theorem State.setPitch_rel (s : State) (v : Nat) (p : Seven) : (s.setPitch v p).rel = s.rel := rfl
@[simp] theorem State.setPitch_params (s : State) (v : Nat) (p : Seven) : (s.setPitch v p).params = s.params := rfl
@[simp] theorem State.setPitch_coefs (s : State) (v : Nat) (p : Seven) : (s.setPitch v p).coefs = s.coefs := rfl
@[simp] theorem State.setPitch_bus (s : State) (v : Nat) (p : Seven) : (s.setPitch v p).bus = s.bus := rfl

@[simp] theorem State.recomputeChirp_cfg (s : State) (x : Module) : (s.recomputeChirp x).cfg = s.cfg := rfl
@[simp] theorem State.recomputeChirp_port (s : State) (x : Module) : (s.recomputeChirp x).port = s.port := rfl
@[simp] theorem State.recomputeChirp_out (s : State) (x : Module) : (s.recomputeChirp x).out = s.out := rfl
@[simp] theorem State.recomputeChirp_nanDraws (s : State) (x : Module) : (s.recomputeChirp x).nanDraws = s.nanDraws := rfl
@[simp] theorem State.recomputeChirp_slots (s : State) (x : Module) : (s.recomputeChirp x).slots = s.slots := rfl
@[simp] theorem State.recomputeChirp_asg (s : State) (x : Module) : (s.recomputeChirp x).asg = s.asg := rfl
@[simp] theorem State.recomputeChirp_rel (s : State) (x : Module) : (s.recomputeChirp x).rel = s.rel := rfl
@[simp] theorem State.recomputeChirp_params (s : State) (x : Module) : (s.recomputeChirp x).params = s.params := rfl
@[simp] theorem State.recomputeChirp_coefs (s : State) (x : Module) : (s.recomputeChirp x).coefs = { s.coefs with chirp := s.coefs.chirp.set (opLowPass s.cfg (s.params.chirp.get x)) x } := rfl
@[simp] theorem State.recomputeChirp_bus (s : State) (x : Module) : (s.recomputeChirp x).bus = s.bus := rfl

@[simp] theorem State.recomputeCab_cfg (s : State) : (s.recomputeCab).cfg = s.cfg := rfl
@[simp] theorem State.recomputeCab_port (s : State) : (s.recomputeCab).port = s.port := rfl
@[simp] theorem State.recomputeCab_out (s : State) : (s.recomputeCab).out = s.out := rfl
@[simp] theorem State.recomputeCab_nanDraws (s : State) : (s.recomputeCab).nanDraws = s.nanDraws := rfl
@[simp] theorem State.recomputeCab_slots (s : State) : (s.recomputeCab).slots = s.slots := rfl
@[simp] theorem State.recomputeCab_asg (s : State) : (s.recomputeCab).asg = s.asg := rfl
@[simp] theorem State.recomputeCab_rel (s : State) : (s.recomputeCab).rel = s.rel := rfl
@[simp] theorem State.recomputeCab_params (s : State) : (s.recomputeCab).params = s.params := rfl
@[simp] theorem State.recomputeCab_coefs (s : State) : (s.recomputeCab).coefs = { s.coefs with cab := cabCoeffs s.cfg s.params.cabLocut s.params.cabHicut s.params.cabTilt } := rfl
@[simp] theorem State.recomputeCab_bus (s : State) : (s.recomputeCab).bus = s.bus := rfl

@[simp] theorem State.recomputeEchoLp_cfg (s : State) : (s.recomputeEchoLp).cfg = s.cfg := rfl
@[simp] theorem State.recomputeEchoLp_port (s : State) : (s.recomputeEchoLp).port = s.port := rfl
@[simp] theorem State.recomputeEchoLp_out (s : State) : (s.recomputeEchoLp).out = s.out := rfl
@[simp] theorem State.recomputeEchoLp_nanDraws (s : State) : (s.recomputeEchoLp).nanDraws = s.nanDraws := rfl
@[simp] theorem State.recomputeEchoLp_slots (s : State) : (s.recomputeEchoLp).slots = s.slots := rfl
@[simp] theorem State.recomputeEchoLp_asg (s : State) : (s.recomputeEchoLp).asg = s.asg := rfl
@[simp] theorem State.recomputeEchoLp_rel (s : State) : (s.recomputeEchoLp).rel = s.rel := rfl
@[simp] theorem State.recomputeEchoLp_params (s : State) : (s.recomputeEchoLp).params = s.params := rfl
@[simp] theorem State.recomputeEchoLp_coefs (s : State) : (s.recomputeEchoLp).coefs = { s.coefs with echoLp := opLowPass s.cfg s.params.echoHicut } := rfl
@[simp] theorem State.recomputeEchoLp_bus (s : State) : (s.recomputeEchoLp).bus = s.bus := rfl

@[simp] theorem State.recomputeCombAp_cfg (s : State) : (s.recomputeCombAp).cfg = s.cfg := rfl
@[simp] theorem State.recomputeCombAp_port (s : State) : (s.recomputeCombAp).port = s.port := rfl
@[simp] theorem State.recomputeCombAp_out (s : State) : (s.recomputeCombAp).out = s.out := rfl
@[simp] theorem State.recomputeCombAp_nanDraws (s : State) : (s.recomputeCombAp).nanDraws = s.nanDraws := rfl
@[simp] theorem State.recomputeCombAp_slots (s : State) : (s.recomputeCombAp).slots = s.slots := rfl
@[simp] theorem State.recomputeCombAp_asg (s : State) : (s.recomputeCombAp).asg = s.asg := rfl
@[simp] theorem State.recomputeCombAp_rel (s : State) : (s.recomputeCombAp).rel = s.rel := rfl
@[simp] theorem State.recomputeCombAp_params (s : State) : (s.recomputeCombAp).params = s.params := rfl
@[simp] theorem State.recomputeCombAp_coefs (s : State) : (s.recomputeCombAp).coefs = { s.coefs with combAp := combApCoeffs s.cfg s.params.combAp s.params.combApRes } := rfl
@[simp] theorem State.recomputeCombAp_bus (s : State) : (s.recomputeCombAp).bus = s.bus := rfl

@[simp] theorem State.recomputeUf_cfg (s : State) : (s.recomputeUf).cfg = s.cfg := rfl
@[simp] theorem State.recomputeUf_port (s : State) : (s.recomputeUf).port = s.port := rfl
@[simp] theorem State.recomputeUf_out (s : State) : (s.recomputeUf).out = s.out := rfl
@[simp] theorem State.recomputeUf_nanDraws (s : State) : (s.recomputeUf).nanDraws = s.nanDraws := rfl
@[simp] theorem State.recomputeUf_slots (s : State) : (s.recomputeUf).slots = s.slots := rfl
@[simp] theorem State.recomputeUf_asg (s : State) : (s.recomputeUf).asg = s.asg := rfl
@[simp] theorem State.recomputeUf_rel (s : State) : (s.recomputeUf).rel = s.rel := rfl
@[simp] theorem State.recomputeUf_params (s : State) : (s.recomputeUf).params = s.params := rfl
@[simp] theorem State.recomputeUf_coefs (s : State) : (s.recomputeUf).coefs = { s.coefs with uf := ufCoeffs s.cfg s.params.ufType s.params.ufCutoff s.params.ufRes s.params.ufShelf } := rfl
@[simp] theorem State.recomputeUf_bus (s : State) : (s.recomputeUf).bus = s.bus := rfl

@[simp] theorem State.retuneCombs_cfg (s : State) : (s.retuneCombs).cfg = s.cfg := rfl
@[simp] theorem State.retuneCombs_port (s : State) : (s.retuneCombs).port = s.port := rfl
@[simp] theorem State.retuneCombs_out (s : State) : (s.retuneCombs).out = s.out := rfl
@[simp] theorem State.retuneCombs_nanDraws (s : State) : (s.retuneCombs).nanDraws = s.nanDraws := rfl
@[simp] theorem State.retuneCombs_slots (s : State) : (s.retuneCombs).slots = s.slots.map fun x => { x with combD := combDelay s.cfg s.params.combKt x.pitch } := rfl
@[simp] theorem State.retuneCombs_asg (s : State) : (s.retuneCombs).asg = s.asg := rfl
@[simp] theorem State.retuneCombs_rel (s : State) : (s.retuneCombs).rel = s.rel := rfl
@[simp] theorem State.retuneCombs_params (s : State) : (s.retuneCombs).params = s.params := rfl
@[simp] theorem State.retuneCombs_coefs (s : State) : (s.retuneCombs).coefs = s.coefs := rfl
@[simp] theorem State.retuneCombs_bus (s : State) : (s.retuneCombs).bus = s.bus := rfl

@[simp] theorem State.clearUf_cfg (s : State) : (s.clearUf).cfg = s.cfg := rfl
@[simp] theorem State.clearUf_port (s : State) : (s.clearUf).port = s.port := rfl
@[simp] theorem State.clearUf_out (s : State) : (s.clearUf).out = s.out := rfl
@[simp] theorem State.clearUf_nanDraws (s : State) : (s.clearUf).nanDraws = s.nanDraws := rfl
@[simp] theorem State.clearUf_slots (s : State) : (s.clearUf).slots = s.slots := rfl
@[simp] theorem State.clearUf_asg (s : State) : (s.clearUf).asg = s.asg := rfl
@[simp] theorem State.clearUf_rel (s : State) : (s.clearUf).rel = s.rel := rfl
@[simp] theorem State.clearUf_params (s : State) : (s.clearUf).params = s.params := rfl
@[simp] theorem State.clearUf_coefs (s : State) : (s.clearUf).coefs = s.coefs := rfl
@[simp] theorem State.clearUf_bus (s : State) : (s.clearUf).bus = { s.bus with uf := ⟨Hist2.clear, Hist2.clear⟩ } := rfl

@[simp] theorem State.advanceUfType_cfg (s : State) : (s.advanceUfType).cfg = s.cfg := rfl
@[simp] theorem State.advanceUfType_port (s : State) : (s.advanceUfType).port = s.port := rfl
@[simp] theorem State.advanceUfType_out (s : State) : (s.advanceUfType).out = s.out := rfl
@[simp] theorem State.advanceUfType_nanDraws (s : State) : (s.advanceUfType).nanDraws = s.nanDraws := rfl
@[simp] theorem State.advanceUfType_slots (s : State) : (s.advanceUfType).slots = s.slots := rfl
@[simp] theorem State.advanceUfType_asg (s : State) : (s.advanceUfType).asg = s.asg := rfl
@[simp] theorem State.advanceUfType_rel (s : State) : (s.advanceUfType).rel = s.rel := rfl
@[simp] theorem State.advanceUfType_params (s : State) : (s.advanceUfType).params = { s.params with ufType := s.params.ufType + 1 } := rfl
@[simp] theorem State.advanceUfType_coefs (s : State) : (s.advanceUfType).coefs = { s.coefs with uf := ufCoeffs s.cfg (s.params.ufType + 1) s.params.ufCutoff s.params.ufRes s.params.ufShelf } := rfl
@[simp] theorem State.advanceUfType_bus (s : State) : (s.advanceUfType).bus = { s.bus with uf := ⟨Hist2.clear, Hist2.clear⟩ } := rfl

@[simp] theorem State.advanceRamps_cfg (s : State) : (s.advanceRamps).cfg = s.cfg := rfl
@[simp] theorem State.advanceRamps_port (s : State) : (s.advanceRamps).port = s.port := rfl
@[simp] theorem State.advanceRamps_out (s : State) : (s.advanceRamps).out = s.out := rfl
@[simp] theorem State.advanceRamps_nanDraws (s : State) : (s.advanceRamps).nanDraws = s.nanDraws := rfl
@[simp] theorem State.advanceRamps_slots (s : State) : (s.advanceRamps).slots = s.slots := rfl
@[simp] theorem State.advanceRamps_asg (s : State) : (s.advanceRamps).asg = s.asg := rfl
@[simp] theorem State.advanceRamps_rel (s : State) : (s.advanceRamps).rel = s.rel := rfl
@[simp] theorem State.advanceRamps_params (s : State) : (s.advanceRamps).params = s.params.mapRamps (advance (rampInc s.cfg)) := rfl
@[simp] theorem State.advanceRamps_coefs (s : State) : (s.advanceRamps).coefs = s.coefs := rfl
@[simp] theorem State.advanceRamps_bus (s : State) : (s.advanceRamps).bus = s.bus := rfl

@[simp] theorem State.output_cfg (s : State) (l r : F32) : (s.output l r).cfg = s.cfg := rfl
@[simp] theorem State.output_port (s : State) (l r : F32) : (s.output l r).port = s.port := rfl
@[simp] theorem State.output_out (s : State) (l r : F32) : (s.output l r).out = some (l.toBits (Config.nanPattern s.nanDraws), r.toBits (Config.nanPattern (s.nanDraws + 1))) := rfl
@[simp] theorem State.output_nanDraws (s : State) (l r : F32) : (s.output l r).nanDraws = s.nanDraws + 2 := rfl
@[simp] theorem State.output_slots (s : State) (l r : F32) : (s.output l r).slots = s.slots := rfl
@[simp] theorem State.output_asg (s : State) (l r : F32) : (s.output l r).asg = s.asg := rfl
@[simp] theorem State.output_rel (s : State) (l r : F32) : (s.output l r).rel = s.rel := rfl
@[simp] theorem State.output_params (s : State) (l r : F32) : (s.output l r).params = s.params := rfl
@[simp] theorem State.output_coefs (s : State) (l r : F32) : (s.output l r).coefs = s.coefs := rfl
@[simp] theorem State.output_bus (s : State) (l r : F32) : (s.output l r).bus = s.bus := rfl

@[simp] theorem State.withFetchWord_cfg (s : State) (n w : Nat) : (s.withFetchWord n w).cfg = s.cfg := rfl
@[simp] theorem State.withFetchWord_port (s : State) (n w : Nat) : (s.withFetchWord n w).port = BitVec.ofNat 26 (w % 2 ^ n) :: s.port := rfl
@[simp] theorem State.withFetchWord_out (s : State) (n w : Nat) : (s.withFetchWord n w).out = s.out := rfl
@[simp] theorem State.withFetchWord_nanDraws (s : State) (n w : Nat) : (s.withFetchWord n w).nanDraws = s.nanDraws := rfl
@[simp] theorem State.withFetchWord_slots (s : State) (n w : Nat) : (s.withFetchWord n w).slots = s.slots := rfl
@[simp] theorem State.withFetchWord_asg (s : State) (n w : Nat) : (s.withFetchWord n w).asg = s.asg := rfl
@[simp] theorem State.withFetchWord_rel (s : State) (n w : Nat) : (s.withFetchWord n w).rel = s.rel := rfl
@[simp] theorem State.withFetchWord_params (s : State) (n w : Nat) : (s.withFetchWord n w).params = s.params := rfl
@[simp] theorem State.withFetchWord_coefs (s : State) (n w : Nat) : (s.withFetchWord n w).coefs = s.coefs := rfl
@[simp] theorem State.withFetchWord_bus (s : State) (n w : Nat) : (s.withFetchWord n w).bus = s.bus := rfl

@[simp] theorem State.setList_cfg (s : State) (x : ListRegs) (l : ListName) : (s.setList x l).cfg = s.cfg := by
  cases l <;> rfl
@[simp] theorem State.setList_port (s : State) (x : ListRegs) (l : ListName) : (s.setList x l).port = s.port := by
  cases l <;> rfl
@[simp] theorem State.setList_out (s : State) (x : ListRegs) (l : ListName) : (s.setList x l).out = s.out := by
  cases l <;> rfl
@[simp] theorem State.setList_nanDraws (s : State) (x : ListRegs) (l : ListName) : (s.setList x l).nanDraws = s.nanDraws := by
  cases l <;> rfl
@[simp] theorem State.setList_slots (s : State) (x : ListRegs) (l : ListName) : (s.setList x l).slots = s.slots := by
  cases l <;> rfl
@[simp] theorem State.setList_params (s : State) (x : ListRegs) (l : ListName) : (s.setList x l).params = s.params := by
  cases l <;> rfl
@[simp] theorem State.setList_coefs (s : State) (x : ListRegs) (l : ListName) : (s.setList x l).coefs = s.coefs := by
  cases l <;> rfl
@[simp] theorem State.setList_bus (s : State) (x : ListRegs) (l : ListName) : (s.setList x l).bus = s.bus := by
  cases l <;> rfl

/-- Writing the registers of a list and reading a list back. -/
@[simp] theorem State.list_setList (s : State) (x : ListRegs) (l m : ListName) :
    (s.setList x l).list m = if m = l then x else s.list m := by
  cases l <;> cases m <;> rfl

@[simp] theorem State.list_modifySlot (s : State) (v : Nat) (f : Slot → Slot) (l : ListName) :
    (s.modifySlot v f).list l = s.list l := by
  cases l <;> rfl

theorem State.asg_eq_list (s : State) : s.asg = s.list .asg := rfl
theorem State.rel_eq_list (s : State) : s.rel = s.list .rel := rfl

@[simp] theorem State.linkNext_cfg (s : State) (l : ListName) (p n : Option Nat) : (s.linkNext l p n).cfg = s.cfg := by
  unfold State.linkNext; split <;> simp
@[simp] theorem State.linkNext_port (s : State) (l : ListName) (p n : Option Nat) : (s.linkNext l p n).port = s.port := by
  unfold State.linkNext; split <;> simp
@[simp] theorem State.linkNext_out (s : State) (l : ListName) (p n : Option Nat) : (s.linkNext l p n).out = s.out := by
  unfold State.linkNext; split <;> simp
@[simp] theorem State.linkNext_nanDraws (s : State) (l : ListName) (p n : Option Nat) : (s.linkNext l p n).nanDraws = s.nanDraws := by
  unfold State.linkNext; split <;> simp
@[simp] theorem State.linkNext_params (s : State) (l : ListName) (p n : Option Nat) : (s.linkNext l p n).params = s.params := by
  unfold State.linkNext; split <;> simp
@[simp] theorem State.linkNext_coefs (s : State) (l : ListName) (p n : Option Nat) : (s.linkNext l p n).coefs = s.coefs := by
  unfold State.linkNext; split <;> simp
@[simp] theorem State.linkNext_bus (s : State) (l : ListName) (p n : Option Nat) : (s.linkNext l p n).bus = s.bus := by
  unfold State.linkNext; split <;> simp
@[simp] theorem State.linkPrev_cfg (s : State) (l : ListName) (n p : Option Nat) : (s.linkPrev l n p).cfg = s.cfg := by
  unfold State.linkPrev; split <;> simp
@[simp] theorem State.linkPrev_port (s : State) (l : ListName) (n p : Option Nat) : (s.linkPrev l n p).port = s.port := by
  unfold State.linkPrev; split <;> simp
@[simp] theorem State.linkPrev_out (s : State) (l : ListName) (n p : Option Nat) : (s.linkPrev l n p).out = s.out := by
  unfold State.linkPrev; split <;> simp
@[simp] theorem State.linkPrev_nanDraws (s : State) (l : ListName) (n p : Option Nat) : (s.linkPrev l n p).nanDraws = s.nanDraws := by
  unfold State.linkPrev; split <;> simp
@[simp] theorem State.linkPrev_params (s : State) (l : ListName) (n p : Option Nat) : (s.linkPrev l n p).params = s.params := by
  unfold State.linkPrev; split <;> simp
@[simp] theorem State.linkPrev_coefs (s : State) (l : ListName) (n p : Option Nat) : (s.linkPrev l n p).coefs = s.coefs := by
  unfold State.linkPrev; split <;> simp
@[simp] theorem State.linkPrev_bus (s : State) (l : ListName) (n p : Option Nat) : (s.linkPrev l n p).bus = s.bus := by
  unfold State.linkPrev; split <;> simp
@[simp] theorem State.unlink_cfg (s : State) (l : ListName) (v : Nat) : (s.unlink l v).cfg = s.cfg := by
  unfold State.unlink; split <;> simp
@[simp] theorem State.unlink_port (s : State) (l : ListName) (v : Nat) : (s.unlink l v).port = s.port := by
  unfold State.unlink; split <;> simp
@[simp] theorem State.unlink_out (s : State) (l : ListName) (v : Nat) : (s.unlink l v).out = s.out := by
  unfold State.unlink; split <;> simp
@[simp] theorem State.unlink_nanDraws (s : State) (l : ListName) (v : Nat) : (s.unlink l v).nanDraws = s.nanDraws := by
  unfold State.unlink; split <;> simp
@[simp] theorem State.unlink_params (s : State) (l : ListName) (v : Nat) : (s.unlink l v).params = s.params := by
  unfold State.unlink; split <;> simp
@[simp] theorem State.unlink_coefs (s : State) (l : ListName) (v : Nat) : (s.unlink l v).coefs = s.coefs := by
  unfold State.unlink; split <;> simp
@[simp] theorem State.unlink_bus (s : State) (l : ListName) (v : Nat) : (s.unlink l v).bus = s.bus := by
  unfold State.unlink; split <;> simp
@[simp] theorem State.append_cfg (s : State) (l : ListName) (v : Nat) : (s.append l v).cfg = s.cfg := by
  simp [State.append]
@[simp] theorem State.append_port (s : State) (l : ListName) (v : Nat) : (s.append l v).port = s.port := by
  simp [State.append]
@[simp] theorem State.append_out (s : State) (l : ListName) (v : Nat) : (s.append l v).out = s.out := by
  simp [State.append]
@[simp] theorem State.append_nanDraws (s : State) (l : ListName) (v : Nat) : (s.append l v).nanDraws = s.nanDraws := by
  simp [State.append]
@[simp] theorem State.append_params (s : State) (l : ListName) (v : Nat) : (s.append l v).params = s.params := by
  simp [State.append]
@[simp] theorem State.append_coefs (s : State) (l : ListName) (v : Nat) : (s.append l v).coefs = s.coefs := by
  simp [State.append]
@[simp] theorem State.append_bus (s : State) (l : ListName) (v : Nat) : (s.append l v).bus = s.bus := by
  simp [State.append]
@[simp] theorem State.strike_cfg (s : State) (l : ListName) (v : Nat) (pitch vel : Seven) : (s.strike l v pitch vel).cfg = s.cfg := by
  simp [State.strike]
@[simp] theorem State.strike_port (s : State) (l : ListName) (v : Nat) (pitch vel : Seven) : (s.strike l v pitch vel).port = s.port := by
  simp [State.strike]
@[simp] theorem State.strike_out (s : State) (l : ListName) (v : Nat) (pitch vel : Seven) : (s.strike l v pitch vel).out = s.out := by
  simp [State.strike]
@[simp] theorem State.strike_nanDraws (s : State) (l : ListName) (v : Nat) (pitch vel : Seven) : (s.strike l v pitch vel).nanDraws = s.nanDraws := by
  simp [State.strike]
@[simp] theorem State.strike_params (s : State) (l : ListName) (v : Nat) (pitch vel : Seven) : (s.strike l v pitch vel).params = s.params := by
  simp [State.strike]
@[simp] theorem State.strike_coefs (s : State) (l : ListName) (v : Nat) (pitch vel : Seven) : (s.strike l v pitch vel).coefs = s.coefs := by
  simp [State.strike]
@[simp] theorem State.strike_bus (s : State) (l : ListName) (v : Nat) (pitch vel : Seven) : (s.strike l v pitch vel).bus = s.bus := by
  simp [State.strike]
@[simp] theorem State.release_cfg (s : State) (v : Nat) : (s.release v).cfg = s.cfg := by
  simp [State.release]
@[simp] theorem State.release_port (s : State) (v : Nat) : (s.release v).port = s.port := by
  simp [State.release]
@[simp] theorem State.release_out (s : State) (v : Nat) : (s.release v).out = s.out := by
  simp [State.release]
@[simp] theorem State.release_nanDraws (s : State) (v : Nat) : (s.release v).nanDraws = s.nanDraws := by
  simp [State.release]
@[simp] theorem State.release_params (s : State) (v : Nat) : (s.release v).params = s.params := by
  simp [State.release]
@[simp] theorem State.release_coefs (s : State) (v : Nat) : (s.release v).coefs = s.coefs := by
  simp [State.release]
@[simp] theorem State.release_bus (s : State) (v : Nat) : (s.release v).bus = s.bus := by
  simp [State.release]
@[simp] theorem State.keyUp_cfg (s : State) (p : Seven) : (s.keyUp p).cfg = s.cfg := by
  unfold State.keyUp; split <;> simp
@[simp] theorem State.keyUp_port (s : State) (p : Seven) : (s.keyUp p).port = s.port := by
  unfold State.keyUp; split <;> simp
@[simp] theorem State.keyUp_out (s : State) (p : Seven) : (s.keyUp p).out = s.out := by
  unfold State.keyUp; split <;> simp
@[simp] theorem State.keyUp_nanDraws (s : State) (p : Seven) : (s.keyUp p).nanDraws = s.nanDraws := by
  unfold State.keyUp; split <;> simp
@[simp] theorem State.keyUp_params (s : State) (p : Seven) : (s.keyUp p).params = s.params := by
  unfold State.keyUp; split <;> simp
@[simp] theorem State.keyUp_coefs (s : State) (p : Seven) : (s.keyUp p).coefs = s.coefs := by
  unfold State.keyUp; split <;> simp
@[simp] theorem State.keyUp_bus (s : State) (p : Seven) : (s.keyUp p).bus = s.bus := by
  unfold State.keyUp; split <;> simp

end Sys2Proof.Machine
end

