-- ==== Sys2Proof/Laws/Ops.lean ====
section
/-! SUPPORT. What each operation over the voice pool and the allocation lists does, said once: its effect on every slot and
on the registers of both lists. Later proofs cite these lemmas and do not unfold the operations. -/

namespace Sys2Proof.Machine

/-- The bytes of a pattern, most significant last, put together again are the pattern: the serialisation drops no bit and
orders the bytes least significant first (R104). -/
theorem serialiseSample_spec (b : BitVec 32) :
    ∃ b0 b1 b2 b3 : Byte, serialiseSample b = [b0, b1, b2, b3] ∧ b = (b3 ++ b2 ++ b1 ++ b0 : BitVec 32) := by
  refine ⟨_, _, _, _, rfl, ?_⟩
  apply BitVec.eq_of_toNat_eq
  simp only [BitVec.toNat_append, BitVec.extractLsb'_toNat, Nat.shiftRight_eq_div_pow, Nat.shiftLeft_eq]
  have glue : ∀ x y : Nat, y < 256 → x * 2 ^ 8 ||| y = x * 2 ^ 8 + y := fun x y h => by
    rw [Nat.mul_comm, Nat.two_pow_add_eq_or_of_lt (i := 8) h]
  have := b.isLt
  rw [glue _ _ (by omega), glue _ _ (by omega), glue _ _ (by omega)]
  omega

/-- The bytes of the pair a TICK returns: L's pattern, then R's, each least significant byte first (R104, R105). -/
@[simp] theorem State.output_outBytes (s : State) (l r : F32) :
    (s.output l r).outBytes = some (serialiseSample (l.toBits (Config.nanPattern s.nanDraws))
      ++ serialiseSample (r.toBits (Config.nanPattern (s.nanDraws + 1)))) := rfl

/-- A word that returns nothing returns no bytes (R131). -/
@[simp] theorem State.taken_outBytes (s : State) (rest : List PortWord) : (s.taken rest).outBytes = none := rfl

/-- A slot after one slot was changed. -/
theorem State.getElem?_modifySlot (s : State) (v u : Nat) (f : Slot → Slot) :
    (s.modifySlot v f).slots[u]? = (s.slots[u]?).map fun y => if u = v then f y else y := by
  rw [State.modifySlot_slots, List.getElem?_modify]
  by_cases h : v = u
  · subst h; simp
  · simp [h, Ne.symm h]

/-- A slot after `linkNext` (R160, R161). -/
theorem State.getElem?_linkNext (s : State) (l : ListName) (p n : Option Nat) (u : Nat) :
    (s.linkNext l p n).slots[u]? = (s.slots[u]?).map fun y => if p = some u then { y with next := n } else y := by
  cases p with
  | none => simp [State.linkNext]
  | some p =>
    rw [State.linkNext, State.getElem?_modifySlot]
    by_cases h : u = p
    · subst h; simp
    · simp [h, Ne.symm h]

/-- A slot after `linkPrev` (R160). -/
theorem State.getElem?_linkPrev (s : State) (l : ListName) (n p : Option Nat) (u : Nat) :
    (s.linkPrev l n p).slots[u]? = (s.slots[u]?).map fun y => if n = some u then { y with prev := p } else y := by
  cases n with
  | none => simp [State.linkPrev]
  | some n =>
    rw [State.linkPrev, State.getElem?_modifySlot]
    by_cases h : u = n
    · subst h; simp
    · simp [h, Ne.symm h]

/-- The list registers after `linkNext`: the head changes where there is no slot to link from. -/
theorem State.list_linkNext (s : State) (l m : ListName) (p n : Option Nat) :
    (s.linkNext l p n).list m = if m = l ∧ p = none then { s.list l with head := n } else s.list m := by
  cases p <;> simp [State.linkNext]

/-- The list registers after `linkPrev`: the tail changes where there is no slot to link to. -/
theorem State.list_linkPrev (s : State) (l m : ListName) (n p : Option Nat) :
    (s.linkPrev l n p).list m = if m = l ∧ n = none then { s.list l with tail := p } else s.list m := by
  cases n <;> simp [State.linkPrev]

/-- Every slot after `unlink(v, L)`, where `x` is the slot taken out (R160). -/
theorem State.getElem?_unlink {s : State} {l : ListName} {v : Nat} {x : Slot} (hx : s.slots[v]? = some x) (u : Nat) :
    (s.unlink l v).slots[u]? = (s.slots[u]?).map fun y =>
      { y with
        prev := if u = v then none else if x.next = some u then x.prev else y.prev
        next := if u = v then none else if x.prev = some u then x.next else y.next } := by
  simp only [State.unlink, hx, State.getElem?_modifySlot, State.setList_slots, State.getElem?_linkPrev,
    State.getElem?_linkNext, Option.map_map]
  congr 1
  funext y
  by_cases h1 : u = v
  · subst h1
    by_cases h2 : x.prev = some u <;> by_cases h3 : x.next = some u <;> simp [h2, h3]
  · by_cases h2 : x.prev = some u <;> by_cases h3 : x.next = some u <;> simp [h1, h2, h3]

/-- The registers of both lists after `unlink(v, L)` (R160). -/
theorem State.list_unlink {s : State} {l : ListName} {v : Nat} {x : Slot} (hx : s.slots[v]? = some x) (m : ListName) :
    (s.unlink l v).list m =
      if m = l then
        { head := if x.prev = none then x.next else (s.list l).head
          tail := if x.next = none then x.prev else (s.list l).tail
          count := (s.list l).count - 1 }
      else s.list m := by
  simp only [State.unlink, hx, State.list_modifySlot, State.list_setList, State.list_linkPrev, State.list_linkNext]
  by_cases hm : m = l <;> by_cases h2 : x.prev = none <;> by_cases h3 : x.next = none <;> simp [hm, h2, h3]

/-- `unlink` of an index outside the pool. -/
theorem State.unlink_of_none {s : State} {l : ListName} {v : Nat} (h : s.slots[v]? = none) : s.unlink l v = s := by
  simp [State.unlink, h]

/-- Every slot after `append(v, L)` (R161). -/
theorem State.getElem?_append (s : State) (l : ListName) (v u : Nat) :
    (s.append l v).slots[u]? = (s.slots[u]?).map fun y =>
      { y with
        prev := if u = v then (s.list l).tail else y.prev
        next := if (s.list l).tail = some u then some v else if u = v then none else y.next } := by
  simp only [State.append, State.setList_slots, State.getElem?_linkNext, State.getElem?_modifySlot, Option.map_map]
  congr 1
  funext y
  by_cases h1 : u = v
  · subst h1
    by_cases h2 : (s.list l).tail = some u <;> simp [h2]
  · by_cases h2 : (s.list l).tail = some u <;> simp [h1, h2]

/-- The registers of both lists after `append(v, L)` (R161). -/
theorem State.list_append (s : State) (l m : ListName) (v : Nat) :
    (s.append l v).list m =
      if m = l then
        { head := if (s.list l).tail = none then some v else (s.list l).head
          tail := some v
          count := (s.list l).count + 1 }
      else s.list m := by
  simp only [State.append, State.list_setList, State.list_linkNext, State.list_modifySlot]
  by_cases hm : m = l <;> by_cases h2 : (s.list l).tail = none <;> simp [hm, h2]

/-- A slot after `set_pitch` (R163). -/
theorem State.getElem?_setPitch (s : State) (v u : Nat) (p : Seven) :
    (s.setPitch v p).slots[u]? = (s.slots[u]?).map fun y => if u = v then Slot.setPitch s.cfg s.params p y else y := by
  rw [State.setPitch, State.getElem?_modifySlot]

@[simp] theorem State.list_setPitch (s : State) (v : Nat) (p : Seven) (l : ListName) :
    (s.setPitch v p).list l = s.list l := by
  cases l <;> rfl

@[simp] theorem State.length_modifySlot (s : State) (v : Nat) (f : Slot → Slot) :
    (s.modifySlot v f).slots.length = s.slots.length := by
  simp

@[simp] theorem State.length_linkNext (s : State) (l : ListName) (p n : Option Nat) :
    (s.linkNext l p n).slots.length = s.slots.length := by
  cases p <;> simp [State.linkNext]

@[simp] theorem State.length_linkPrev (s : State) (l : ListName) (n p : Option Nat) :
    (s.linkPrev l n p).slots.length = s.slots.length := by
  cases n <;> simp [State.linkPrev]

@[simp] theorem State.length_unlink (s : State) (l : ListName) (v : Nat) :
    (s.unlink l v).slots.length = s.slots.length := by
  unfold State.unlink
  split
  · rfl
  · simp only [State.length_modifySlot, State.setList_slots, State.length_linkPrev, State.length_linkNext]

@[simp] theorem State.length_append (s : State) (l : ListName) (v : Nat) :
    (s.append l v).slots.length = s.slots.length := by
  simp only [State.append, State.setList_slots, State.length_linkNext, State.length_modifySlot]

/-- The slot a note is struck on, before its links (R164). -/
def struckSlot (cfg : Config) (P : Params) (pitch vel : Seven) (x : Slot) : Slot :=
  let y := Slot.setPitch cfg P pitch { x with tag := .assigned, pitch := pitch, vel := mapUni vel }
  { y with osc := ⟨{ y.osc.a with p := F32.zero }, { y.osc.b with p := F32.zero }⟩ }

/-- Every slot after a note is struck on slot `v` (R164). -/
theorem State.getElem?_strike (s : State) (l : ListName) (v : Nat) (pitch vel : Seven) (u : Nat) :
    (s.strike l v pitch vel).slots[u]? =
      (((s.unlink l v).append .asg v).slots[u]?).map fun y =>
        if u = v then struckSlot s.cfg s.params pitch vel y else y := by
  simp only [State.strike, State.getElem?_modifySlot, State.getElem?_setPitch, State.modifySlot_cfg,
    State.modifySlot_params, State.append_cfg, State.append_params, State.unlink_cfg, State.unlink_params, Option.map_map]
  congr 1
  funext y
  by_cases h : u = v <;> simp [h, struckSlot]

/-- The registers of the lists after a note is struck (R164). -/
theorem State.list_strike (s : State) (l : ListName) (v : Nat) (pitch vel : Seven) (m : ListName) :
    (s.strike l v pitch vel).list m = ((s.unlink l v).append .asg v).list m := by
  simp only [State.strike, State.list_modifySlot, State.list_setPitch]

@[simp] theorem State.length_strike (s : State) (l : ListName) (v : Nat) (pitch vel : Seven) :
    (s.strike l v pitch vel).slots.length = s.slots.length := by
  simp only [State.strike, State.setPitch, State.length_modifySlot, State.length_append, State.length_unlink]

/-- Every slot after slot `v` is released (R166). -/
theorem State.getElem?_release (s : State) (v u : Nat) :
    (s.release v).slots[u]? =
      (((s.unlink .asg v).append .rel v).slots[u]?).map fun y =>
        if u = v then { y with tag := .free, vel := F32.zero } else y := by
  rw [State.release, State.getElem?_modifySlot]

/-- The registers of the lists after a slot is released (R166). -/
theorem State.list_release (s : State) (v : Nat) (m : ListName) :
    (s.release v).list m = ((s.unlink .asg v).append .rel v).list m := by
  rw [State.release, State.list_modifySlot]

@[simp] theorem State.length_release (s : State) (v : Nat) : (s.release v).slots.length = s.slots.length := by
  simp only [State.release, State.length_modifySlot, State.length_append, State.length_unlink]

@[simp] theorem State.length_keyUp (s : State) (p : Seven) : (s.keyUp p).slots.length = s.slots.length := by
  unfold State.keyUp; split <;> simp

/-- The slot a key up finds: assigned, of the pitch, and no lower slot is both (R166). -/
theorem State.firstMatch_spec {s : State} {pitch : Seven} {v : Nat} (h : s.firstMatch pitch = some v) :
    (∃ x, s.slots[v]? = some x ∧ x.tag = .assigned ∧ x.pitch = pitch) ∧
      ∀ u < v, ∀ y, s.slots[u]? = some y → ¬ (y.tag = .assigned ∧ y.pitch = pitch) := by
  rw [State.firstMatch, List.findIdx?_eq_some_iff_getElem] at h
  obtain ⟨hv, hx, hu⟩ := h
  refine ⟨⟨s.slots[v], List.getElem?_eq_getElem hv, by simpa using hx⟩, fun u hlt y hy hc => ?_⟩
  have := hu u hlt
  rw [List.getElem?_eq_some_iff] at hy
  obtain ⟨h', rfl⟩ := hy
  simp [hc.1, hc.2] at this

/-- A key up that finds no slot. -/
theorem State.firstMatch_none {s : State} {pitch : Seven} (h : s.firstMatch pitch = none) :
    ∀ x ∈ s.slots, ¬ (x.tag = .assigned ∧ x.pitch = pitch) := by
  rw [State.firstMatch, List.findIdx?_eq_none_iff] at h
  intro x hx hc
  have := h x hx
  simp [hc.1, hc.2] at this

end Sys2Proof.Machine
end

