-- ==== Sys2Proof/Laws/Params.lean ====
section
/-! SUPPORT. The parameter register file: writing one ramped register leaves every other one, and advancing reaches all. -/

namespace Sys2Proof

@[simp] theorem ModRamps.get_set (m : ModRamps) (x : Ramp) (r q : ModReg) :
    (m.set x r).get q = if q = r then x else m.get q := by
  cases r <;> cases q <;> rfl

@[simp] theorem ModRamps.get_mapRamps (f : Ramp → Ramp) (m : ModRamps) (r : ModReg) :
    (m.mapRamps f).get r = f (m.get r) := by
  cases r <;> rfl

@[simp] theorem PerModule.get_set {α : Type} (p : PerModule α) (x : α) (m n : Module) :
    (p.set x m).get n = if n = m then x else p.get n := by
  cases m <;> cases n <;> rfl

/-- Reading a ramped register after writing one. -/
@[simp] theorem Params.ramp_setRamp (p : Params) (v : Ramp) (r q : RampReg) :
    (p.setRamp v r).ramp q = if q = r then v else p.ramp q := by
  cases r with
  | mod x r =>
    cases q with
    | mod y q => cases x <;> cases y <;> simp [Params.setRamp, Params.ramp, PerModule.set, PerModule.get]
    | _ => rfl
  | _ =>
    cases q with
    | mod y q => cases y <;> rfl
    | _ => rfl

/-- Advancing every ramped register. -/
@[simp] theorem Params.ramp_mapRamps (f : Ramp → Ramp) (p : Params) (r : RampReg) :
    (p.mapRamps f).ramp r = f (p.ramp r) := by
  cases r with
  | mod x r => cases x <;> cases r <;> rfl
  | _ => rfl

@[simp] theorem Params.unramped_setRamp (p : Params) (v : Ramp) (r : RampReg) :
    (p.setRamp v r).unramped = p.unramped := by
  cases r <;> rfl

@[simp] theorem Params.unramped_mapRamps (f : Ramp → Ramp) (p : Params) : (p.mapRamps f).unramped = p.unramped := rfl

/-- What `initRamp` does: everything but `cur` is set for a new ramp from the value reached (R192). -/
theorem initRamp_spec (r : Ramp) (t : F32) :
    initRamp r t = { cur := r.cur, base := r.cur, target := t, diff := t.sub r.cur, ramp := F32.zero, dirty := true } := rfl

/-- What `advance` does: nothing to a converged register, the last step onto the target, or one step along the ramp
(R193). -/
theorem advance_cases (inc : F32) (r : Ramp) :
    (r.dirty = false ∧ advance inc r = r) ∨
    (r.dirty = true ∧ (r.ramp.add inc).ge F32.one = true ∧
      advance inc r = { r with ramp := F32.one, cur := r.target, dirty := false }) ∨
    (r.dirty = true ∧ (r.ramp.add inc).ge F32.one = false ∧
      advance inc r = { r with ramp := r.ramp.add inc, cur := r.base.add (r.diff.mul (r.ramp.add inc)) }) := by
  unfold advance
  cases hd : r.dirty <;> cases hg : (r.ramp.add inc).ge F32.one <;> simp

/-- `.dirty` after a step of the smoother (R193). -/
theorem advance_dirty (inc : F32) (r : Ramp) : (advance inc r).dirty = Machine.dirtyAfterAdvance inc r := by
  unfold advance Machine.dirtyAfterAdvance
  cases hd : r.dirty <;> cases hg : (r.ramp.add inc).ge F32.one <;> simp [hd]

/-- An advance keeps the target. -/
@[simp] theorem advance_target (inc : F32) (r : Ramp) : (advance inc r).target = r.target := by
  obtain ⟨-, e⟩ | ⟨-, -, e⟩ | ⟨-, -, e⟩ := advance_cases inc r <;> rw [e]

/-- What the check of R196 says when it holds: every step of the ramp goes towards the target and not past it, and the
register has converged after the last. -/
theorem Ramp.monotone_spec {inc : F32} {k : Nat} {r : Ramp} (h : Ramp.monotone inc k r = true) :
    (∀ j, j < k → F32.between (Ramp.advances inc j r).cur (Ramp.advances inc (j + 1) r).cur r.target = true)
      ∧ (Ramp.advances inc k r).dirty = false := by
  induction k generalizing r with
  | zero => exact ⟨fun j hj => absurd hj (Nat.not_lt_zero j), by simpa [Ramp.monotone, Ramp.advances] using h⟩
  | succ k ih =>
    simp only [Ramp.monotone, Bool.and_eq_true] at h
    obtain ⟨hs, hd⟩ := ih h.2
    refine ⟨fun j hj => ?_, hd⟩
    cases j with
    | zero => exact h.1
    | succ j =>
      have := hs j (by omega)
      rwa [advance_target] at this

/-- A register converges consistently, and stays so. -/
theorem Ramp.consistent_advance {inc : F32} {r : Ramp} (h : Ramp.Consistent r) :
    Ramp.Consistent (advance inc r) := by
  obtain ⟨-, e⟩ | ⟨-, -, e⟩ | ⟨hd, -, e⟩ := advance_cases inc r
  · rw [e]; exact h
  · intro _; rw [e]; exact ⟨rfl, rfl⟩
  · intro hf; rw [e] at hf; simp [hd] at hf

/-- A register that has just been given a target is ramping. -/
theorem Ramp.consistent_initRamp (r : Ramp) (t : F32) : Ramp.Consistent (initRamp r t) := by
  intro h; cases h

/-- A register that RESET leaves is consistent. -/
theorem Ramp.consistent_settled (x : F32) : Ramp.Consistent (Ramp.settled x) := fun _ => ⟨rfl, rfl⟩

end Sys2Proof
end

