-- ==== Sys2Proof/Laws/Shape.lean ====
section
/-! SUPPORT. Instructions and their shapes, parameters and their ids. -/

namespace Sys2Proof

@[simp] theorem Param.ofId?_id (k : Param) : Param.ofId? k.id = some k := by
  cases k <;> rfl

theorem Param.id_lt (k : Param) : k.id < paramCount := by
  cases k <;> decide

theorem Param.id_injective {k q : Param} (h : k.id = q.id) : k = q := by
  have := congrArg Param.ofId? h
  simpa using this

/-- An id below 55 is some parameter's (R53). -/
theorem Param.exists_of_lt {n : Nat} (h : n < paramCount) : ∃ k : Param, k.id = n := by
  have : ∀ m : Fin paramCount, ∃ k ∈ Param.all, k.id = m.val := by decide
  obtain ⟨k, -, hk⟩ := this ⟨n, h⟩
  exact ⟨k, hk⟩

theorem Param.ofId?_eq_some {n : Nat} {k : Param} (h : Param.ofId? n = some k) : n = k.id := by
  have hlt : n < paramCount := by
    simp only [Param.ofId?, List.getElem?_eq_some_iff] at h
    exact h.1
  obtain ⟨q, rfl⟩ := Param.exists_of_lt hlt
  rw [Param.ofId?_id] at h
  rw [Option.some.inj h]

@[simp] theorem Param.shape_setInstr (k : Param) (v : Seven) : (k.setInstr v).shape = .set k v := by
  cases k <;> rfl

@[simp] theorem InstrShape.shape_instr (x : InstrShape) : x.instr.shape = x := by
  cases x with
  | set k v => exact Param.shape_setInstr k v
  | _ => rfl

theorem Instr.instr_shape (i : Instr) : i.shape.instr = i := by
  cases i <;> rfl

/-- Two instructions of one shape are one. -/
theorem Instr.shape_injective {i j : Instr} (h : i.shape = j.shape) : i = j := by
  rw [← Instr.instr_shape i, h, Instr.instr_shape]

end Sys2Proof
end

