-- ==== Sys2Proof/Laws/PerInstr.lean ====
section
/-! SUPPORT. Statements about every instruction as syntax, one lemma per constructor. -/

namespace Sys2Proof.Laws.ShapeRound

/-- The shape of an instruction determines it. -/
def Statement (i : Instr) : Prop := i.shape.instr = i

theorem noteOn (pitch vel : Seven) : Statement (.noteOn pitch vel) := rfl
theorem noteOnV0 (pitch : Seven) : Statement (.noteOnV0 pitch) := rfl
theorem noteOff (pitch ignored : Seven) : Statement (.noteOff pitch ignored) := rfl
theorem setAFluct (v : Seven) : Statement (.setAFluct v) := rfl
theorem setAChirp (v : Seven) : Statement (.setAChirp v) := rfl
theorem setAPmSelf (v : Seven) : Statement (.setAPmSelf v) := rfl
theorem setAPmCross (v : Seven) : Statement (.setAPmCross v) := rfl
theorem setAPmSelfShp (v : Seven) : Statement (.setAPmSelfShp v) := rfl
theorem setAPmCrossShp (v : Seven) : Statement (.setAPmCrossShp v) := rfl
theorem setADrive (v : Seven) : Statement (.setADrive v) := rfl
theorem setAFold (v : Seven) : Statement (.setAFold v) := rfl
theorem setAAsym (v : Seven) : Statement (.setAAsym v) := rfl
theorem setAMainmix (v : Seven) : Statement (.setAMainmix v) := rfl
theorem setARing (v : Seven) : Statement (.setARing v) := rfl
theorem setALevel (v : Seven) : Statement (.setALevel v) := rfl
theorem setAPan (v : Seven) : Statement (.setAPan v) := rfl
theorem setBFluct (v : Seven) : Statement (.setBFluct v) := rfl
theorem setBChirp (v : Seven) : Statement (.setBChirp v) := rfl
theorem setBPmSelf (v : Seven) : Statement (.setBPmSelf v) := rfl
theorem setBPmCross (v : Seven) : Statement (.setBPmCross v) := rfl
theorem setBPmSelfShp (v : Seven) : Statement (.setBPmSelfShp v) := rfl
theorem setBPmCrossShp (v : Seven) : Statement (.setBPmCrossShp v) := rfl
theorem setBDrive (v : Seven) : Statement (.setBDrive v) := rfl
theorem setBFold (v : Seven) : Statement (.setBFold v) := rfl
theorem setBAsym (v : Seven) : Statement (.setBAsym v) := rfl
theorem setBMainmix (v : Seven) : Statement (.setBMainmix v) := rfl
theorem setBRing (v : Seven) : Statement (.setBRing v) := rfl
theorem setBLevel (v : Seven) : Statement (.setBLevel v) := rfl
theorem setBPan (v : Seven) : Statement (.setBPan v) := rfl
theorem setKeypan (v : Seven) : Statement (.setKeypan v) := rfl
theorem setMixDrive (v : Seven) : Statement (.setMixDrive v) := rfl
theorem setMixFold (v : Seven) : Statement (.setMixFold v) := rfl
theorem setMixAsym (v : Seven) : Statement (.setMixAsym v) := rfl
theorem setMixLevel (v : Seven) : Statement (.setMixLevel v) := rfl
theorem setCabDrive (v : Seven) : Statement (.setCabDrive v) := rfl
theorem setCabLocut (v : Seven) : Statement (.setCabLocut v) := rfl
theorem setCabHicut (v : Seven) : Statement (.setCabHicut v) := rfl
theorem setCabTilt (v : Seven) : Statement (.setCabTilt v) := rfl
theorem setCabFold (v : Seven) : Statement (.setCabFold v) := rfl
theorem setCabAsym (v : Seven) : Statement (.setCabAsym v) := rfl
theorem setCabMix (v : Seven) : Statement (.setCabMix v) := rfl
theorem setCabLevel (v : Seven) : Statement (.setCabLevel v) := rfl
theorem setEchoTime (v : Seven) : Statement (.setEchoTime v) := rfl
theorem setEchoStereo (v : Seven) : Statement (.setEchoStereo v) := rfl
theorem setEchoFb (v : Seven) : Statement (.setEchoFb v) := rfl
theorem setEchoXfb (v : Seven) : Statement (.setEchoXfb v) := rfl
theorem setEchoHicut (v : Seven) : Statement (.setEchoHicut v) := rfl
theorem setEchoMix (v : Seven) : Statement (.setEchoMix v) := rfl
theorem setCombMix (v : Seven) : Statement (.setCombMix v) := rfl
theorem setCombDecay (v : Seven) : Statement (.setCombDecay v) := rfl
theorem setCombAp (v : Seven) : Statement (.setCombAp v) := rfl
theorem setCombApRes (v : Seven) : Statement (.setCombApRes v) := rfl
theorem setCombKt (v : Seven) : Statement (.setCombKt v) := rfl
theorem setUfEnable (v : Seven) : Statement (.setUfEnable v) := rfl
theorem setUfType (v : Seven) : Statement (.setUfType v) := rfl
theorem setUfCutoff (v : Seven) : Statement (.setUfCutoff v) := rfl
theorem setUfRes (v : Seven) : Statement (.setUfRes v) := rfl
theorem setUfShelf (v : Seven) : Statement (.setUfShelf v) := rfl
theorem ctrl (id v : Seven) : Statement (.ctrl id v) := rfl
theorem tick (payload : BitVec 24) : Statement (.tick payload) := rfl
theorem reset (payload : BitVec 24) : Statement (.reset payload) := rfl
theorem reserved (payload : BitVec 24) : Statement (.reserved payload) := rfl

end Sys2Proof.Laws.ShapeRound
end

