-- ==== Sys2Proof/Laws/Tick.lean ====
section
/-! SUPPORT. What a TICK does to the parts it does not compute: the fields of a slot that the voice pass keeps, the number of
slots, the delay lines' canonical form, the sums of the voice pass, and the chirp history. -/

namespace Sys2Proof

/-- What one slot's part of the voice pass keeps of the slot, and what it does to its two lines (R170 step 3). -/
theorem slotTick_spec (cfg : Config) (P : Params) (C : Coefs) (v : Slot) (l r : F32) :
    let t := (slotTick cfg P C v l r).1
    t.tag = v.tag ∧ t.pitch = v.pitch ∧ t.vel = v.vel ∧ t.next = v.next ∧ t.prev = v.prev ∧ t.combD = v.combD
      ∧ (∀ m : Module, ∃ w, (t.comb.get m).line = dlWrite cfg.combBuf (v.comb.get m).line w) := by
  refine ⟨rfl, rfl, rfl, rfl, rfl, rfl, fun m => ?_⟩
  cases m <;> exact ⟨_, rfl⟩

/-- The voice pass keeps the number of slots. -/
@[simp] theorem length_voicePass (cfg : Config) (P : Params) (C : Coefs) (vs : List Slot) (l r : F32) :
    (voicePass cfg P C vs l r).1.length = vs.length := by
  induction vs generalizing l r with
  | nil => rfl
  | cons v rest ih => simp [voicePass, ih]

/-- Every slot after the voice pass is its own step, from the sum the slots before it left. -/
theorem getElem?_voicePass (cfg : Config) (P : Params) (C : Coefs) (vs : List Slot) (l r : F32) (u : Nat) :
    ∃ l' r', (voicePass cfg P C vs l r).1[u]? = (vs[u]?).map fun v => (slotTick cfg P C v l' r').1 := by
  induction vs generalizing l r u with
  | nil => exact ⟨l, r, by simp [voicePass]⟩
  | cons v rest ih =>
    cases u with
    | zero => exact ⟨l, r, by simp [voicePass]⟩
    | succ u =>
      obtain ⟨l', r', h⟩ := ih (slotTick cfg P C v l r).2.1 (slotTick cfg P C v l r).2.2 u
      exact ⟨l', r', by simpa [voicePass] using h⟩

/-- A slot of the voice pass comes from a slot before it. -/
theorem mem_voicePass {cfg : Config} {P : Params} {C : Coefs} {vs : List Slot} {l r : F32} {t : Slot}
    (h : t ∈ (voicePass cfg P C vs l r).1) : ∃ v ∈ vs, ∃ l' r', t = (slotTick cfg P C v l' r').1 := by
  rw [List.mem_iff_getElem?] at h
  obtain ⟨u, hu⟩ := h
  obtain ⟨l', r', e⟩ := getElem?_voicePass cfg P C vs l r u
  rw [e, Option.map_eq_some_iff] at hu
  obtain ⟨v, hv, rfl⟩ := hu
  exact ⟨v, List.mem_of_getElem? hv, l', r', rfl⟩

/-- The sums the voice pass leaves: each channel is added to slot by slot, in index order (R170 step 3, R301). A channel's sum
does not depend on the other's. -/
theorem voicePass_sums (cfg : Config) (P : Params) (C : Coefs) (vs : List Slot) (l r : F32) :
    (voicePass cfg P C vs l r).2.1 = vs.foldl (fun a x => (slotTick cfg P C x a F32.zero).2.1) l
      ∧ (voicePass cfg P C vs l r).2.2 = vs.foldl (fun a x => (slotTick cfg P C x F32.zero a).2.2) r := by
  induction vs generalizing l r with
  | nil => exact ⟨rfl, rfl⟩
  | cons v rest ih => exact ⟨(ih _ _).1, (ih _ _).2⟩

/-- The chirp history after an oscillator step is the filter's, wrap edge or not (R250, R256). -/
theorem oscTick_chirp (cfg : Config) (k : OpCoef) (fluct : F32) (o : Osc) (pm : F32) :
    (oscTick cfg k fluct o pm).2.chirp = (opTick cfg.dnc k o.chirp pm).2 := by
  unfold oscTick
  dsimp only
  split <;> rfl

/-- The bus pass does one `DL_write` on each echo line (R350). -/
theorem busPass_line (cfg : Config) (P : Params) (C : Coefs) (b : Bus) (l r : F32) (c : Channel) :
    ∃ w, ((busPass cfg P C b l r).2.2.echo.get c).line = dlWrite cfg.echoBuf (b.echo.get c).line w := by
  cases c <;> exact ⟨_, rfl⟩

/-- With the utility filter off, its histories are held (R370). -/
theorem busPass_uf {cfg : Config} {P : Params} (C : Coefs) (b : Bus) (l r : F32) (h : P.ufEnable = false) :
    (busPass cfg P C b l r).2.2.uf = b.uf := by
  simp [busPass, ufStage, h]

/-- A TICK keeps every delay line in canonical form. -/
theorem Machine.State.linesInv_tick {s : Machine.State} (h : s.LinesInv) : s.advanceRamps.sample.LinesInv := by
  obtain ⟨he, hc, hs, hb⟩ := h
  refine ⟨he, hc, ?_, ?_⟩
  · intro t ht m
    obtain ⟨v, hv, l', r', rfl⟩ := mem_voicePass ht
    obtain ⟨w, hw⟩ := (slotTick_spec _ _ _ v l' r').2.2.2.2.2.2 m
    rw [hw]
    exact Line.wf_dlWrite w (hs v hv m)
  · intro c
    obtain ⟨w, hw⟩ := busPass_line s.cfg s.advanceRamps.params s.coefs s.bus
      (voicePass s.cfg s.advanceRamps.params s.coefs s.slots F32.zero F32.zero).2.1
      (voicePass s.cfg s.advanceRamps.params s.coefs s.slots F32.zero F32.zero).2.2 c
    exact hw ▸ Line.wf_dlWrite w (hb c)

end Sys2Proof
end

