-- ==== Sys2Proof/Tests/Slice0.lean ====
section
/-! SUPPORT. Tests: the ill-formed terms that `WellFormed` refuses, decoded words, one-step examples whose expected values
stand in the spec, and a witness for the hypotheses of every statement that has some. -/

namespace Sys2Proof.Tests

-- One theorem at a time: each `decide +kernel` below waits in a thread of its own for all the text before it.
set_option Elab.async false

open Sys2Proof.Machine

/-! ## States -/

/-- Two slots at 48000 Hz, after RESET. -/
def small : State := State.resetOf (Config.standard 2 48000)

/-- The state an outcome goes on to. -/
def after (r : Host.Outcome State Fault Refusal) : State :=
  match r with
  | .next t => t
  | _ => small

/-- The state after one port word. -/
def word (s : State) (w : Nat) : State := after (step (s.withFetchWord 32 w))

/-- `small` after `NOTE_ON 69, 100`. -/
def one : State := after (exec (.noteOn 69 100) small)

/-- `one` after `NOTE_ON 64, 100`: the pool is full. -/
def two : State := after (exec (.noteOn 64 100) one)

/-! ## Well-formed instructions (R139, R382): each check refuses an ill-formed term -/

theorem test_wf_note_on_velocity_zero : (Instr.noteOn 69 0).wellFormed Config.default = false := by decide

theorem test_wf_set_without_control_id :
    (Instr.setAPan 1).wellFormed { Config.default with ctrlMap := List.replicate 128 none } = false := by decide

theorem test_wf_ctrl_that_selects_a_parameter : (Instr.ctrl 12 1).wellFormed Config.default = false := by decide

theorem test_wf_accepts : (Instr.noteOn 69 1).wellFormed Config.default = true ∧ (Instr.ctrl 55 1).wellFormed Config.default = true
    ∧ (Instr.setUfShelf 1).wellFormed Config.default = true := by decide

/-! ## Decoding: the encoding of R139 written out -/

/-- The fields of R130 and R133, `OP`, `S`, `D1`, `D2`, one after the other. -/
theorem test_decode_fields :
    decode Config.default (0b00#2 ++ 0x90#8 ++ 69#8 ++ 100#8) = .ok (.noteOn 69 100)
      ∧ decode Config.default (0b00#2 ++ 0x90#8 ++ 60#8 ++ 0#8) = .ok (.noteOnV0 60)
      ∧ decode Config.default (0b00#2 ++ 0x80#8 ++ 69#8 ++ 0x7F#8) = .ok (.noteOff 69 127)
      ∧ decode Config.default (0b00#2 ++ 0xB0#8 ++ 12#8 ++ 127#8) = .ok (.setAPan 127)
      ∧ decode Config.default (0b00#2 ++ 0xB0#8 ++ 55#8 ++ 127#8) = .ok (.ctrl 55 127)
      ∧ decode Config.default (0b01#2 ++ 0x000001#24) = .ok (.tick 1)
      ∧ decode Config.default (0b10#2 ++ 0x800000#24) = .ok (.reset 0x800000)
      ∧ decode Config.default (0b11#2 ++ 0xFFFFFF#24) = .ok (.reserved 0xFFFFFF) := by decide +kernel

/-- The words of R140 and of R164 to R166. -/
theorem test_decode_commands :
    decodeTableWord 32 0x0904564 = some (.noteOn 69 100) ∧ decodeTableWord 32 0x0903C00 = some (.noteOnV0 60)
      ∧ decodeTableWord 32 0x0804500 = some (.noteOff 69 0) ∧ decodeTableWord 32 0x0B06405 = some (.ctrl 100 5)
      ∧ decodeTableWord 32 0x1000000 = some (.tick 0) ∧ decodeTableWord 32 0x2000000 = some (.reset 0)
      ∧ decodeTableWord 32 0x3000000 = some (.reserved 0) := by decide +kernel

/-- The words that are no command (R136, R137, R478), and bytes with a bit outside a port word (R130). -/
theorem test_decode_rejects :
    decode Config.default 0x0914564 = .error .unknownStatus ∧ decode Config.default 0x090C864 = .error .dataBit7
      ∧ decode Config.default 0x0804580 = .error .dataBit7 ∧ decode Config.default 0x0B0A540 = .error .dataBit7
      ∧ decodeBytes Config.default [0x64, 0x45, 0x90, 0x04] = .error .outsidePortWord
      ∧ decodeBytes Config.default [0x64, 0x45, 0x90] = .error .truncated := by decide +kernel

/-- The words of the examples of R400 to R412. -/
theorem test_decode_set_module_a :
    ([(0x0B0007F, .setAFluct 127),
      (0x0B00140, .setAChirp 64),
      (0x0B0027F, .setAPmSelf 127),
      (0x0B0037F, .setAPmCross 127),
      (0x0B0047F, .setAPmSelfShp 127),
      (0x0B0057F, .setAPmCrossShp 127),
      (0x0B00640, .setADrive 64),
      (0x0B0077F, .setAFold 127),
      (0x0B0087F, .setAAsym 127),
      (0x0B0097F, .setAMainmix 127),
      (0x0B00A7F, .setARing 127),
      (0x0B00B7F, .setALevel 127),
      (0x0B00C7F, .setAPan 127)] : List (Nat × Instr)).all (fun e => decide (decodeTableWord 32 e.1 = some e.2)) = true := by
  decide +kernel

/-- The words of the examples of R413 to R425. -/
theorem test_decode_set_module_b :
    ([(0x0B00D7F, .setBFluct 127),
      (0x0B00E40, .setBChirp 64),
      (0x0B00F7F, .setBPmSelf 127),
      (0x0B0107F, .setBPmCross 127),
      (0x0B0117F, .setBPmSelfShp 127),
      (0x0B0127F, .setBPmCrossShp 127),
      (0x0B01340, .setBDrive 64),
      (0x0B0147F, .setBFold 127),
      (0x0B0157F, .setBAsym 127),
      (0x0B0167F, .setBMainmix 127),
      (0x0B0177F, .setBRing 127),
      (0x0B0187F, .setBLevel 127),
      (0x0B0197F, .setBPan 127)] : List (Nat × Instr)).all (fun e => decide (decodeTableWord 32 e.1 = some e.2)) = true := by
  decide +kernel

/-- The words of the examples of R426 to R438. -/
theorem test_decode_set_mixer_and_cabinet :
    ([(0x0B01A7F, .setKeypan 127),
      (0x0B01B40, .setMixDrive 64),
      (0x0B01C7F, .setMixFold 127),
      (0x0B01D7F, .setMixAsym 127),
      (0x0B01E7F, .setMixLevel 127),
      (0x0B01F40, .setCabDrive 64),
      (0x0B02040, .setCabLocut 64),
      (0x0B02140, .setCabHicut 64),
      (0x0B0227F, .setCabTilt 127),
      (0x0B0237F, .setCabFold 127),
      (0x0B0247F, .setCabAsym 127),
      (0x0B0257F, .setCabMix 127),
      (0x0B02640, .setCabLevel 64)] : List (Nat × Instr)).all (fun e => decide (decodeTableWord 32 e.1 = some e.2)) = true := by
  decide +kernel

/-- The words of the examples of R439 to R449. -/
theorem test_decode_set_echo_and_comb :
    ([(0x0B0277F, .setEchoTime 127),
      (0x0B0287F, .setEchoStereo 127),
      (0x0B0297F, .setEchoFb 127),
      (0x0B02A7F, .setEchoXfb 127),
      (0x0B02B40, .setEchoHicut 64),
      (0x0B02C40, .setEchoMix 64),
      (0x0B02D7F, .setCombMix 127),
      (0x0B02E7F, .setCombDecay 127),
      (0x0B02F40, .setCombAp 64),
      (0x0B03050, .setCombApRes 80),
      (0x0B0317F, .setCombKt 127)] : List (Nat × Instr)).all (fun e => decide (decodeTableWord 32 e.1 = some e.2)) = true := by
  decide +kernel

/-- The words of the examples of R450 to R454. -/
theorem test_decode_set_utility_filter :
    ([(0x0B03240, .setUfEnable 64),
      (0x0B03301, .setUfType 1),
      (0x0B03440, .setUfCutoff 64),
      (0x0B03550, .setUfRes 80),
      (0x0B03660, .setUfShelf 96)] : List (Nat × Instr)).all (fun e => decide (decodeTableWord 32 e.1 = some e.2)) = true := by
  decide +kernel

/-! ## Control changes: the examples of R400 to R454 -/

/-- From reset, the word starts the ramp with this target and difference, and `.cur` is this after one advance. -/
def rampStarts (e : Nat × RampReg × BitVec 32 × BitVec 32 × BitVec 32) : Bool :=
  let r := (word small e.1).params.ramp e.2.1
  decide (r.target = lit e.2.2.1) && decide (r.diff = lit e.2.2.2.1) && r.dirty
    && decide ((advance (rampInc small.cfg) r).cur = lit e.2.2.2.2)

theorem test_ramp_module_a :
    ([(0x0B0007F, .mod .a .fluct, 0x3DCCCCCD, 0x3DCCCCCD, 0x39AAAAAB),
      (0x0B0027F, .mod .a .pmSelf, 0x3F800000, 0x3F800000, 0x3B555555),
      (0x0B0037F, .mod .a .pmCross, 0x3F800000, 0x3F800000, 0x3B555555),
      (0x0B0047F, .mod .a .pmSelfShp, 0x3F800000, 0x3F800000, 0x3B555555),
      (0x0B0057F, .mod .a .pmCrossShp, 0x3F800000, 0x3F800000, 0x3B555555),
      (0x0B00640, .mod .a .drive, 0x419185F6, 0x418985F6, 0x3F8729A5),
      (0x0B0077F, .mod .a .fold, 0x3F800000, 0x3F800000, 0x3B555555),
      (0x0B0087F, .mod .a .asym, 0x3F800000, 0x3F800000, 0x3B555555),
      (0x0B0097F, .mod .a .mainMix, 0x3F800000, 0x3F800000, 0x3B555555),
      (0x0B00A7F, .mod .a .ring, 0x3F800000, 0x3F800000, 0x3B555555),
      (0x0B00B7F, .mod .a .level, 0x3F800000, 0x3F000000, 0x3F006AAB),
      (0x0B00C7F, .mod .a .pan, 0x3F800000, 0x3F000000, 0x3F006AAB)] :
      List (Nat × RampReg × BitVec 32 × BitVec 32 × BitVec 32)).all rampStarts = true := by decide +kernel

theorem test_ramp_module_b :
    ([(0x0B00D7F, .mod .b .fluct, 0x3DCCCCCD, 0x3DCCCCCD, 0x39AAAAAB),
      (0x0B00F7F, .mod .b .pmSelf, 0x3F800000, 0x3F800000, 0x3B555555),
      (0x0B0107F, .mod .b .pmCross, 0x3F800000, 0x3F800000, 0x3B555555),
      (0x0B0117F, .mod .b .pmSelfShp, 0x3F800000, 0x3F800000, 0x3B555555),
      (0x0B0127F, .mod .b .pmCrossShp, 0x3F800000, 0x3F800000, 0x3B555555),
      (0x0B01340, .mod .b .drive, 0x419185F6, 0x418985F6, 0x3F8729A5),
      (0x0B0147F, .mod .b .fold, 0x3F800000, 0x3F800000, 0x3B555555),
      (0x0B0157F, .mod .b .asym, 0x3F800000, 0x3F800000, 0x3B555555),
      (0x0B0167F, .mod .b .mainMix, 0x3F800000, 0x3F800000, 0x3B555555),
      (0x0B0177F, .mod .b .ring, 0x3F800000, 0x3F800000, 0x3B555555),
      (0x0B0187F, .mod .b .level, 0x3F800000, 0x3F000000, 0x3F006AAB),
      (0x0B0197F, .mod .b .pan, 0x3F800000, 0x3F000000, 0x3F006AAB)] :
      List (Nat × RampReg × BitVec 32 × BitVec 32 × BitVec 32)).all rampStarts = true := by decide +kernel

theorem test_ramp_mixer_and_cabinet :
    ([(0x0B01A7F, .keypan, 0x3F800000, 0x3F800000, 0x3B555555),
      (0x0B01B40, .mixDrive, 0x419185F6, 0x418985F6, 0x3F8729A5),
      (0x0B01C7F, .mixFold, 0x3F800000, 0x3F800000, 0x3B555555),
      (0x0B01D7F, .mixAsym, 0x3F800000, 0x3F800000, 0x3B555555),
      (0x0B01E7F, .mixLevel, 0x3F800000, 0x00000000, 0x3F800000),
      (0x0B01F40, .cabDrive, 0x419185F6, 0x418985F6, 0x3F8729A5),
      (0x0B0237F, .cabFold, 0x3F800000, 0x3F800000, 0x3B555555),
      (0x0B0247F, .cabAsym, 0x3F800000, 0x3F800000, 0x3B555555),
      (0x0B0257F, .cabMix, 0x3F800000, 0x3F800000, 0x3B555555),
      (0x0B02640, .cabLevel, 0x3D6B9D60, 0xBF71462A, 0x3F7F36F0)] :
      List (Nat × RampReg × BitVec 32 × BitVec 32 × BitVec 32)).all rampStarts = true := by decide +kernel

theorem test_ramp_echo_and_comb :
    ([(0x0B0297F, .echoFb, 0x3F800000, 0x3F800000, 0x3B555555),
      (0x0B02A7F, .echoXfb, 0x3F800000, 0x3F800000, 0x3B555555),
      (0x0B02D7F, .combMix, 0x3F800000, 0x3F800000, 0x3B555555),
      (0x0B02E7F, .combDecay, 0x3F7D70A4, 0x3EFAE148, 0x3F006889)] :
      List (Nat × RampReg × BitVec 32 × BitVec 32 × BitVec 32)).all rampStarts = true := by decide +kernel

/-- R196, the checked property: a whole ramp up and a whole one down at 8000 Hz, `K = 52`. -/
theorem test_ramp_monotone :
    rampMonotone (Config.standard 2 8000) 52 F32.zero F32.one = true
      ∧ rampMonotone (Config.standard 2 8000) 52 F32.half F32.zero = true := by decide +kernel

/-- R196 at 48000 Hz, over the advances before convergence: from the rows 306 of R199 and 307 of program P3. The check fails
of a register that moves away from its target. -/
theorem test_ramp_monotone_to_the_end :
    Ramp.monotone (rampInc small.cfg) 2 ⟨lit 0x3F7EFFD7, F32.zero, F32.one, F32.one, lit 0x3F7EFFD7, true⟩ = true
      ∧ Ramp.monotone (rampInc small.cfg) 1 ⟨lit 0x39AB5000, F32.half, F32.zero, F32.half.neg, lit 0x3F7FD52C, true⟩ = true
      ∧ Ramp.monotone (rampInc small.cfg) 2 ⟨lit 0x3F7EFFD7, F32.zero, F32.zero, F32.one, lit 0x3F7EFFD7, true⟩ = false := by
  decide +kernel

/-- R444: `SET ECHO_MIX, 64` starts both ramps. -/
theorem test_echo_mix :
    ([(0x0B02C40, .echoDry, 0x3F0E7C7A, 0xBEE3070C, 0x3F7FA168), (0x0B02C40, .echoWet, 0x3EE3070C, 0x3EE3070C, 0x3ABD308A)] :
      List (Nat × RampReg × BitVec 32 × BitVec 32 × BitVec 32)).all rampStarts = true := by decide +kernel

/-- A biquad set of five patterns. -/
def bq (b0 b1 b2 a1 a2 : BitVec 32) : BqCoef := ⟨lit b0, lit b1, lit b2, lit a1, lit a2⟩

/-- A one-pole set of three patterns. -/
def op (b0 b1 a1 : BitVec 32) : OpCoef := ⟨lit b0, lit b1, lit a1⟩

theorem test_set_chirps :
    (word small 0x0B00140).coefs.chirp.a = op 0x3D26EE6F 0x3D26EE6F 0xBF6B2233
      ∧ (word small 0x0B00140).coefs.chirp.b = small.coefs.chirp.b
      ∧ (word small 0x0B00E40).coefs.chirp.b = op 0x3D26EE6F 0x3D26EE6F 0xBF6B2233
      ∧ (word small 0x0B00E40).params.chirp.b = lit 0x4422307E := by decide +kernel

/-- R432 to R434, R328. -/
theorem test_set_cabinet_filters :
    (word small 0x0B02040).coefs.cab.hp = bq 0x3F6B902A 0xBFEB902A 0x3F6B902A 0xBFEB2482 0x3F57F7A2
      ∧ (word small 0x0B02140).coefs.cab.lp1 = bq 0x3AD74EC7 0x3B574EC7 0x3AD74EC7 0xBFEB2482 0x3F57F7A2
      ∧ (word small 0x0B02140).coefs.cab.lp2 = bq 0x3B3A844B 0x3BBA844B 0x3B3A844B 0xBFE48F50 0x3F4C08B2
      ∧ (word small 0x0B0227F).coefs.cab.t1 = bq 0x3FC4C896 0xBFDE1F1A 0x3F1F85FD 0xBFF93F4D 0x3F72D6B8
      ∧ (word small 0x0B0227F).coefs.cab.t2 = bq 0x3F26849D 0xBFA2202A 0x3F1DF507 0xBF907B36 0x3ECF8703 := by decide +kernel

/-- R439, R440, R443. -/
theorem test_set_echo_unramped :
    (word small 0x0B0277F).params.echoTime = lit 0x3FC00000 ∧ (word small 0x0B0287F).params.echoStereo = lit 0x3F800000
      ∧ (word small 0x0B02B40).coefs.echoLp = op 0x3D26EE6F 0x3D26EE6F 0xBF6B2233 := by decide +kernel

/-- R447 to R449: the comb all-pass sets, and the retuned delays of two slots, pitch 69 in slot 0. -/
theorem test_set_comb_unramped :
    (word small 0x0B02F40).coefs.combAp = bq 0x3F57F7A2 0xBFEB2482 0x3F800000 0xBFEB2482 0x3F57F7A2
      ∧ (word small 0x0B03050).coefs.combAp = bq 0x3F184CF0 0x3FAFF2AF 0x3F800000 0x3FAFF2AF 0x3F184CF0
      ∧ one.slots.map (fun x => x.combD) = [lit 0x42DA2E8C, lit 0x433777E3]
      ∧ (word one 0x0B03100).slots.map (fun x => x.combD) = [lit 0x433777E3, lit 0x433777E3] := by decide +kernel

/-- R450 to R454. -/
theorem test_set_utility_filter :
    (word small 0x0B03240).params.ufEnable = true ∧ (word small 0x0B0323F).params.ufEnable = false
      ∧ (word small 0x0B03440).coefs.uf = bq 0x3AD74EC7 0x3B574EC7 0x3AD74EC7 0xBFEB2482 0x3F57F7A2
      ∧ (word small 0x0B03550).coefs.uf = bq 0x3F3E0C94 0x3FBE0C94 0x3F3E0C94 0x3FAFF2AF 0x3F184CF0
      ∧ (word small 0x0B03660).params.ufShelf = lit 0x40C00000
      ∧ (word small 0x0B03660).coefs.uf = bq 0x3F1E0A3F 0x3F9E0A3F 0x3F1E0A3F 0x3F92505A 0x3EA7108D := by decide +kernel

/-- R451, R457: a non-zero value advances the type and clears the histories; 0 does nothing. -/
theorem test_set_uf_type :
    (word small 0x0B03301).params.ufType = 1
      ∧ (word { small with bus := { small.bus with uf := ⟨⟨F32.one, F32.one⟩, ⟨F32.one, F32.one⟩⟩ } } 0x0B03301).bus = small.bus
      ∧ (word { small with params := { small.params with ufType := 3 } } 0x0B03301).params.ufType = 0 := by
  decide +kernel

theorem test_set_uf_type_zero : word small 0x0B03300 = small := rfl

/-- R457, R478: a control ID that selects nothing changes nothing. -/
theorem test_ctrl_unmapped : word small 0x0B06405 = small ∧ exec (.ctrl 100 5) small = .next small :=
  ⟨rfl, rfl⟩

/-- R478: words that are no command change nothing. -/
theorem test_ignored_words : word small 0x3000000 = small ∧ word small 0x0914564 = small ∧ word small 0x090C864 = small :=
  ⟨rfl, rfl, rfl⟩

/-! ## Notes -/

/-- The example of R164, on two slots. -/
theorem test_note_on :
    one.asg = { head := some 0, tail := some 0, count := 1 } ∧ one.rel = { head := some 1, tail := some 1, count := 1 }
      ∧ one.slots.map (fun x => (x.tag, x.pitch, x.vel)) = [(.assigned, 69, lit 0x3F499326), (.free, 60, F32.zero)]
      ∧ one.slots.map (fun x => x.osc.a.f0) = [lit 0x43DC0000, lit 0x4382D013]
      ∧ one.slots.map (fun x => x.osc.b.inc) = [lit 0x3C162FC9, lit 0x3BB29A62] := by decide +kernel

/-- The pool is full: the oldest assigned slot is stolen (R164, R167). -/
theorem test_note_on_steals :
    (word two 0x0904864).asg = { head := some 1, tail := some 0, count := 2 }
      ∧ (word two 0x0904864).slots.map (fun x => (x.pitch, x.next, x.prev)) = [(72, none, some 1), (64, some 0, none)] := by
  decide +kernel

/-- The example of R166. -/
theorem test_note_off :
    (word one 0x0804500).asg = { head := none, tail := none, count := 0 }
      ∧ (word one 0x0804500).rel = { head := some 1, tail := some 0, count := 2 }
      ∧ (word one 0x0804500).slots.map (fun x => (x.tag, x.pitch, x.vel)) = [(.free, 69, F32.zero), (.free, 60, F32.zero)] := by
  decide +kernel

/-- Nothing assigned: an unmatched NOTE_OFF changes nothing (R166, R478). -/
theorem test_note_off_unmatched : word small 0x0804500 = small := rfl

/-- Velocity 0 is a key up (R165). -/
theorem test_note_on_v0 : word two 0x0904000 = word two 0x0804000 ∧ (word two 0x0904000).asg.count = 1 :=
  ⟨rfl, rfl⟩

/-! ## TICK, RESET and the signal path -/

/-- V-TICK-1: the first pair after RESET, twelve slots. -/
theorem test_tick_reset_vector :
    (word State.reset 0x1000000).out = some (0x213CCB2B#32, 0x213CCB2B#32) := by decide +kernel

/-- R258, R308 and P1: the first TICK after `NOTE_ON 69, 100`. -/
theorem test_tick_after_note_on :
    (word one 0x1000000).out = some (0x223298A9#32, 0x223298A9#32)
      ∧ (word one 0x1000000).slots.map (fun x => x.osc.a.p) = [lit 0x3C162FC9, lit 0x3BB29A62] := by decide +kernel

/-- RESET after a note and a control change gives the reset state (R490, V-RST). -/
theorem test_reset : word (word two 0x0B03301) 0x2000000 = small := rfl

/-- R258: the first draws of the generator seeded with 1. -/
theorem test_lcg :
    lcgNext 1 = 0x41C67EA6 ∧ lcgValue 0x41C67EA6 = lit 0x3F038CFD ∧ lcgValue (lcgNext 0x41C67EA6) = lit 0xBF53029E := by
  decide +kernel

/-- R214, with the literals rounded to binary32. -/
theorem test_sines :
    ([(0x3D800000, 0x3EBC0000, 0x3EC3F6F0, 0x3F6C9A0E), (0x3DCCCCCD, 0x3F116873, 0x3F1685F6, 0x3F4F34C5),
      (0x3E800000, 0x3F800000, 0x3F800000, 0x00000000), (0x3E99999A, 0x3F71A9FC, 0x3F738B07, 0xBE9E3BB4),
      (0x3F400000, 0xBF800000, 0xBF800000, 0x00000000)] : List (BitVec 32 × BitVec 32 × BitVec 32 × BitVec 32)).all
      (fun e => decide (sin3 (lit e.1) = lit e.2.1 ∧ sin5 (lit e.1) = lit e.2.2.1 ∧ cos5 (lit e.1) = lit e.2.2.2)) = true := by
  decide +kernel

/-- R279: clipped, folded, partly folded and asymmetric. -/
theorem test_shaper :
    ([(0x3E800000, 0x00000000, 0x00000000, 0x3EBC0000), (0x3FC00000, 0x00000000, 0x00000000, 0x3F800000),
      (0x3FC00000, 0x3F800000, 0x00000000, 0x3F300000), (0x3FC00000, 0x3F010204, 0x00000000, 0x3F57AF5F),
      (0xBFC00000, 0x00000000, 0x00000000, 0xBF800000), (0x3F000000, 0x00000000, 0x3F800000, 0xBD600000),
      (0x3F000000, 0x00000000, 0x3F010204, 0x3EA08102)] : List (BitVec 32 × BitVec 32 × BitVec 32 × BitVec 32)).all
      (fun e => decide (shaper (lit e.1) F32.one (lit e.2.1) (lit e.2.2.1) = lit e.2.2.2)) = true := by
  decide +kernel

/-- R288, R307 and the `interp` values of R372. -/
theorem test_mixes :
    bxf F32.half F32.quarter F32.half.neg = lit 0x3E000000 ∧ bxf F32.half F32.quarter F32.one.neg = lit 0xBE800000
      ∧ keypan F32.one 0 = lit 0xBEF00000 ∧ keypan F32.one 127 = lit 0x3F060000 ∧ keypan F32.one.neg 127 = lit 0xBF060000
      ∧ interp F32.zero F32.one F32.zero F32.zero F32.half = lit 0x3F100000
      ∧ interp F32.one F32.two (lit 0x40400000) (lit 0x40800000) F32.quarter = lit 0x40100000 := by decide +kernel

/-- Log 20, by R321, R12 and R277: the largest finite value at a drive of 2 leaves a fully dry cabinet as NaN. An ordinary
sample passes (R325, R329). -/
theorem test_cabinet_overflow :
    (cabTick small.cfg { small.params with cabDrive := Ramp.settled F32.two } small.coefs small.bus.cab.l (lit 0x7F7FFFFF)).1 = .nan
      ∧ (cabTick small.cfg small.params small.coefs small.bus.cab.l (lit 0x3F000000)).1 = lit 0x3F000000 := by decide +kernel

/-- R372: an impulse on a line of 16 elements, read at 2.0 and at 5.5 two and four writes later. -/
theorem test_delay_line :
    let l : Line := dlWrite 16 Line.clear F32.one
    dlRead 16 (dlWrite 16 l F32.zero) F32.two = F32.one
      ∧ dlRead 16 (dlWrite 16 (dlWrite 16 (dlWrite 16 l F32.zero) F32.zero) F32.zero) (lit 0x40B00000) = lit 0xBD800000 := by
  decide +kernel

/-- R12: ties to even, overflow to infinity, an invalid operation. -/
theorem test_binary32 :
    (lit 0x3F800000).add (lit 0x33800000) = lit 0x3F800000 ∧ (lit 0x3F800001).add (lit 0x33800000) = lit 0x3F800002
      ∧ (lit 0x7F7FFFFF).add (lit 0x7F7FFFFF) = .inf false ∧ (F32.inf false).sub (.inf false) = .nan
      ∧ (lit 0x00000001).mul F32.half = F32.zero ∧ F32.one.div (lit 0x40400000) = lit 0x3EAAAAAB
      ∧ F32.two.sqrt = lit 0x3FB504F3 := by decide +kernel

/-- R104, R105: the bytes of a port word and of a returned pair, least significant byte first, L before R. -/
theorem test_bytes :
    serialise 0x2345678#26 = [0x78, 0x56, 0x34, 0x02]
      ∧ { small with out := some (0x12345678#32, 0x9ABCDEF0#32) }.outBytes =
        some [0x78, 0x56, 0x34, 0x12, 0xF0, 0xDE, 0xBC, 0x9A] := by decide +kernel

/-! ## Witnesses: states and operands that meet the hypotheses of the statements -/

/-- The lists of `small`, `one` and `two`. -/
theorem test_lists_small : small.Lists [] [0, 1] :=
  ⟨⟨rfl, rfl, rfl, trivial⟩, ⟨rfl, rfl, rfl, ⟨_, rfl, rfl, rfl, rfl⟩, ⟨_, rfl, rfl, rfl, rfl⟩, trivial⟩, by decide, rfl⟩

theorem test_lists_one : one.Lists [0] [1] :=
  ⟨⟨rfl, rfl, rfl, ⟨_, rfl, rfl, rfl, rfl⟩, trivial⟩, ⟨rfl, rfl, rfl, ⟨_, rfl, rfl, rfl, rfl⟩, trivial⟩, by decide, rfl⟩

theorem test_lists_two : two.Lists [0, 1] [] :=
  ⟨⟨rfl, rfl, rfl, ⟨_, rfl, rfl, rfl, rfl⟩, ⟨_, rfl, rfl, rfl, rfl⟩, trivial⟩, ⟨rfl, rfl, rfl, trivial⟩, by decide, rfl⟩

theorem test_witness_step_runs_the_decoded_instruction :
    (small.withFetchWord 32 0x0904564).port = 0x0904564#26 :: []
      ∧ decode small.cfg 0x0904564#26 = .ok (.noteOn 69 100) :=
  by decide +kernel

theorem test_witness_rejected_word :
    (small.withFetchWord 32 0x0914564).port = 0x0914564#26 :: []
      ∧ decode small.cfg 0x0914564#26 = .error .unknownStatus :=
  by decide +kernel

theorem test_witness_empty_port :
    small.port = [] :=
  rfl

/-- Also of `WordsAreTakenInOrder`. -/
theorem test_witness_only_tick_returns :
    ∃ t u, (small.withFetchWord 32 0x1000000).port = 0x1000000#26 :: [] ∧ step (small.withFetchWord 32 0x1000000) = .next t
      ∧ (small.withFetchWord 32 0x2000000).port = 0x2000000#26 :: [] ∧ step (small.withFetchWord 32 0x2000000) = .next u :=
  ⟨_, _, rfl, rfl, rfl, rfl⟩

/-- The three invariants with a step, and the step of `ConfigurationNeverChanges` and `FramesAndPortAttachAreNotRead`. -/
theorem test_witness_every_step :
    ∃ t, step (small.withFetchWord 32 0x0904564) = .next t ∧ small.AllocInv ∧ (small.withFetchWord 32 0x0904564).AllocInv
      ∧ (small.withFetchWord 32 0x0904564).LinesInv ∧ (small.withFetchWord 32 0x0904564).RampInv :=
  ⟨_, rfl, ⟨by decide, _, _, test_lists_small⟩, ⟨by decide, _, _, test_lists_small⟩,
    State.linesInv_resetOf _ (by decide +kernel) (by decide +kernel),
    fun r => by cases r with
      | mod x m => cases x <;> cases m <;> exact fun _ => ⟨rfl, rfl⟩
      | _ => exact fun _ => ⟨rfl, rfl⟩⟩

theorem test_witness_decode_of_encode :
    Config.default.legal = true ∧ (Instr.noteOn 69 1).wellFormed Config.default = true
      ∧ (Instr.setUfShelf 127).wellFormed Config.default = true ∧ (Instr.ctrl 127 127).wellFormed Config.default = true
      ∧ (Instr.reserved 0xFFFFFF).wellFormed Config.default = true :=
  by decide +kernel

theorem test_witness_encode_of_decode :
    decode Config.default 0x0B0367F = .ok (.setUfShelf 127) :=
  by decide +kernel

theorem test_witness_rejected_words :
    Config.default.legal = true ∧ decode Config.default 0x0B00080 = .error .dataBit7
      ∧ decode Config.default 0x0B08000 = .error .dataBit7 ∧ decode Config.default 0x0000000 = .error .unknownStatus :=
  by decide +kernel

/-- The first and the last slot. -/
theorem test_witness_reset_slots :
    0 < small.cfg.n ∧ 0 < small.cfg.n ∧ 1 < small.cfg.n :=
  by decide +kernel

theorem test_witness_assigned_plus_released :
    two.AllocInv :=
  ⟨by decide, _, _, test_lists_two⟩

/-- A slot at the head and a slot at the tail of its list. -/
theorem test_witness_unlink :
    ∃ x y, two.slots[0]? = some x ∧ x.prev ≠ some 0 ∧ x.next ≠ some 0 ∧ two.slots[1]? = some y ∧ y.prev ≠ some 1 ∧ y.next ≠ some 1 :=
  ⟨_, _, rfl, by decide, by decide, rfl, by decide, by decide⟩

/-- An empty list and a list that is not empty. -/
theorem test_witness_append :
    (two.list .rel).tail ≠ some 0 ∧ (small.list .rel).tail ≠ some 0 :=
  by decide +kernel

theorem test_witness_note_on_free :
    small.Lists [] (0 :: [1]) ∧ one.Lists [0] (1 :: []) :=
  ⟨test_lists_small, test_lists_one⟩

theorem test_witness_note_on_steal :
    two.Lists (0 :: [1]) [] :=
  test_lists_two

/-- The only assigned slot, and one that is not the first. -/
theorem test_witness_key_up :
    ∃ x y, one.Lists [0] [1] ∧ one.slots[0]? = some x ∧ x.tag = .assigned ∧ x.pitch = 69 ∧ two.Lists [0, 1] []
      ∧ two.slots[1]? = some y ∧ y.tag = .assigned ∧ y.pitch = 64
      ∧ ∀ u z, u < 1 → two.slots[u]? = some z → ¬ (z.tag = .assigned ∧ z.pitch = 64) :=
  by
  refine ⟨_, _, test_lists_one, rfl, rfl, rfl, test_lists_two, rfl, rfl, rfl, fun u z hu hz => ?_⟩
  obtain rfl : u = 0 := by omega
  cases hz
  decide

theorem test_witness_unmatched_key_up :
    ∀ x ∈ one.slots, ¬ (x.tag = .assigned ∧ x.pitch = 60) :=
  by decide +kernel

theorem test_witness_uf_type :
    (1 : Seven) ≠ 0 ∧ (127 : Seven) ≠ 0 :=
  by decide

theorem test_witness_uf_type_other_writer :
    ∃ t, step (small.withFetchWord 32 0x0B03440) = .next t ∧
      ∀ w rest i, (small.withFetchWord 32 0x0B03440).port = w :: rest → decode small.cfg w = .ok i →
        (∀ v, i ≠ .setUfType v) ∧ (∀ p, i ≠ .reset p) :=
  by
  refine ⟨_, rfl, fun w rest i hp hi => ?_⟩
  have hd : decode small.cfg 0x0B03440#26 = .ok (.setUfCutoff 64) := by decide +kernel
  obtain ⟨rfl, -⟩ : 0x0B03440#26 = w ∧ [] = rest := by simpa [State.withFetchWord, small, State.resetOf] using hp
  obtain rfl : Instr.setUfCutoff 64 = i := by simpa [hd] using hi
  exact ⟨fun v => by simp, fun p => by simp⟩

theorem test_witness_control_change :
    ∃ t x, exec (Param.combKt.setInstr 0) one = .next t ∧ one.slots[0]? = some x :=
  ⟨_, _, rfl, rfl⟩

theorem test_witness_control_word :
    small.cfg.legal = true ∧ (small.withFetchWord 32 0x0B03100).port = commandWord small.cfg.sCtrl (dataByte 49) (dataByte 0) :: []
      ∧ (small.withFetchWord 32 0x0B06405).port = commandWord small.cfg.sCtrl (dataByte 100) (dataByte 5) :: []
      ∧ small.cfg.ctrlMap[49]? = some (some 49) ∧ small.cfg.ctrlMap[100]? = some none :=
  by decide +kernel

theorem test_witness_ctrl :
    small.cfg.paramOf 55 = none ∧ small.cfg.paramOf 127 = none ∧ small.cfg.paramOf 0 = some .aFluct
      ∧ small.cfg.paramOf 54 = some .ufShelf :=
  by decide +kernel

theorem test_witness_control_writes :
    Param.ufCutoff ≠ .ufType ∧ Param.aChirp ≠ .ufShelf :=
  by decide

/-- The last write index and the first. -/
theorem test_witness_delay_line_write :
    Line.wf (2 ^ 2) { mem := [(1, F32.one)], w := 3 } = true ∧ Line.wf (2 ^ 2) { mem := [(0, F32.one), (3, F32.two)], w := 0 } = true :=
  by decide +kernel

/-- The youngest and the oldest tap. -/
theorem test_witness_tap :
    Line.wf 4 { mem := [(1, F32.one)], w := 3 } = true ∧ [F32.one, F32.two, F32.half, F32.zero].length ≤ 4
      ∧ [F32.one, F32.two, F32.half, F32.zero].reverse[1 - 1]? = some F32.zero
      ∧ [F32.one, F32.two, F32.half, F32.zero].reverse[4 - 1]? = some F32.one :=
  by decide +kernel

theorem test_witness_tick :
    ∃ t x y, exec (.tick 0) one = .next t ∧ one.slots[0]? = some x ∧ t.slots[0]? = some y ∧ small.params.ufEnable = false :=
  ⟨_, _, _, rfl, rfl, rfl, rfl⟩

/-- The least and the greatest integer delay of a line of five elements. -/
theorem test_witness_read_at_integer_delay :
    let l := [F32.one, F32.two, F32.half].foldl (dlWrite 5) Line.clear
    Line.wf 5 Line.clear = true ∧ [F32.one, F32.two, F32.half].length ≤ 5
      ∧ [F32.one, F32.two, F32.half].reverse[2 - 1]? = some F32.two ∧ [F32.one, F32.two, F32.half].reverse[3 - 1]? = some F32.one
      ∧ ∀ k ∈ [2, 3], (l.tap 5 k).isFinite = true ∧
        let a := F32.half.mul ((l.tap 5 (k + 1)).sub (l.tap 5 (k - 1)))
        let b := F32.half.mul ((l.tap 5 (k + 2)).sub (l.tap 5 k))
        let c := (l.tap 5 k).sub (l.tap 5 (k + 1))
        a.isFinite = true ∧ ((a.add b).add (F32.two.mul c)).isFinite = true
          ∧ (((F32.two.mul a).add b).add ((lit 0x40400000).mul c)).isFinite = true :=
  by decide +kernel

/-- Canonical lines of a state in which TICK completes. -/
theorem test_witness_lines :
    (∀ x ∈ one.slots, ∀ m : Module, Line.wf one.cfg.combBuf (x.comb.get m).line = true)
      ∧ ∀ c : Channel, Line.wf one.cfg.echoBuf (one.bus.echo.get c).line = true :=
  by
  refine ⟨fun x hx m => ?_, fun c => ?_⟩
  · have h : ∀ x ∈ one.slots, Line.wf one.cfg.combBuf x.comb.a.line = true ∧ Line.wf one.cfg.combBuf x.comb.b.line = true := by
      decide +kernel
    cases m
    · exact (h x hx).1
    · exact (h x hx).2
  · cases c <;> decide +kernel

theorem test_witness_dry :
    small.params.cabMix.cur = F32.zero ∧ small.params.echoDry.cur = F32.one ∧ small.params.echoWet.cur = F32.zero :=
  ⟨rfl, rfl, rfl⟩

theorem test_witness_division :
    (lit 0x7F7FFFFF).isFinite = true ∧ (lit 0x80000001).isFinite = true ∧ (lit 0x80000001).value149 ≠ 0 :=
  by decide +kernel

/-- A phase step that is no wrap edge, and one that is. -/
theorem test_witness_tick_wrap_edges :
    isWrapEdge (lit 0x3C162FC9) (wrapPhase ((lit 0x3C162FC9).add (lit 0x3C162FC9))) = false
      ∧ isWrapEdge (lit 0x3EFDDDDE) (wrapPhase ((lit 0x3EFDDDDE).add (lit 0x3C162FC9))) = true :=
  by decide +kernel

theorem test_witness_finite :
    (lit 0x3F800000).isFinite = true ∧ (lit 0x7F7FFFFF).isFinite = true ∧ (lit 0x80000001).isFinite = true
      ∧ lit 0x80000001 ≠ F32.zero ∧ lit 0x80000001 ≠ F32.zero.neg :=
  by decide +kernel

end Sys2Proof.Tests
end

/-!
PROOF. Binary32 arithmetic rounds to nearest, ties to even (00_scope.md R12). Patterns without their sign are natural
numbers, and `F32.units` is strictly increasing on all of them, the infinity's pattern and those past it included. So
"nearest" can be said of patterns by comparing with the middle between two of them (`F32.NearestPattern`), with no signs and
no absolute values. One lemma says that `F32.roundScaled` finds such a pattern, one that such a pattern is nearest in the
sense of `F32.IsNearestQuot`, and each operation is a short use of the two.
-/

namespace Sys2Proof

/-! ## The magnitudes of consecutive patterns -/

@[simp] theorem F32.units_zero : F32.units 0 = 0 := rfl

theorem F32.units_infinity : F32.units 0x7F800000 = 2 ^ 24 * 2 ^ 253 := by decide +kernel

theorem F32.units_maxFinite : F32.units 0x7F7FFFFF = (2 ^ 24 - 1) * 2 ^ 253 := by decide +kernel

/-- A pattern written with a significand `q` and a place `j`; `q = 2^24` stands for the carry into the next binade. -/
theorem F32.units_place {j q : Nat} (hq : q ≤ 16777216) (hj : j = 0 ∨ 8388608 ≤ q) :
    F32.units (j * 8388608 + q) = q * 2 ^ j := by
  simp only [F32.units, Nat.shiftLeft_eq]
  by_cases hsub : q < 8388608
  · obtain rfl : j = 0 := by omega
    simp [Nat.div_eq_of_lt hsub, Nat.mod_eq_of_lt hsub]
  by_cases hcarry : q = 16777216
  · subst hcarry
    have hdiv : (j * 8388608 + 16777216) / 8388608 = j + 2 := by omega
    have hmod : (j * 8388608 + 16777216) % 8388608 = 0 := by omega
    rw [hdiv, hmod, if_neg (by omega), show j + 2 - 1 = j + 1 from rfl, pow_succ]
    ring
  · have hdiv : (j * 8388608 + q) / 8388608 = j + 1 := by omega
    have hmod : 8388608 + (j * 8388608 + q) % 8388608 = q := by omega
    rw [hdiv, hmod, if_neg (by omega), Nat.add_sub_cancel]

/-- Every pattern has a place and a significand below `2^24`, normalised unless the place is 0 (R12, R15). -/
theorem F32.exists_place (m : Nat) : ∃ j q, m = j * 8388608 + q ∧ q < 16777216 ∧ (j = 0 ∨ 8388608 ≤ q) := by
  by_cases h : m < 16777216
  · exact ⟨0, m, by omega, h, .inl rfl⟩
  · exact ⟨m / 8388608 - 1, 8388608 + m % 8388608, by omega, by omega, .inr (by omega)⟩

theorem F32.units_strictMono : StrictMono F32.units := by
  refine strictMono_nat_of_lt_succ fun m => ?_
  obtain ⟨j, q, rfl, hq, hj⟩ := F32.exists_place m
  rw [add_assoc, F32.units_place hq.le hj, F32.units_place (q := q + 1) (by omega) (by omega)]
  exact Nat.mul_lt_mul_of_pos_right (Nat.lt_succ_self q) (Nat.two_pow_pos j)

theorem F32.units_lt (mag : Fin 0x7F800000) : F32.units mag < 2 ^ (24 + 253) := by
  have h := F32.units_strictMono mag.isLt
  rwa [F32.units_infinity, ← pow_add] at h

theorem F32.units_eq_zero {m : Nat} : F32.units m = 0 ↔ m = 0 := by
  simpa using F32.units_strictMono.injective.eq_iff (a := m) (b := 0)

/-! ## The nearest pattern -/

/-- `p` is the pattern of the magnitude nearest to `n / d * 2^-(149 + t)`, ties to even, among the magnitudes of all patterns:
twice the value is compared with the sum of the magnitudes of `p` and of each other pattern. -/
structure F32.NearestPattern (p n d t : Nat) : Prop where
  below_greater : ∀ j, p < j → 2 * n < (F32.units p + F32.units j) * (2 ^ t * d)
    ∨ (2 * n = (F32.units p + F32.units j) * (2 ^ t * d) ∧ p % 2 = 0)
  above_smaller : ∀ j, j < p → (F32.units p + F32.units j) * (2 ^ t * d) < 2 * n
    ∨ ((F32.units p + F32.units j) * (2 ^ t * d) = 2 * n ∧ p % 2 = 0)

theorem F32.NearestPattern.zero {d t : Nat} : F32.NearestPattern 0 0 d t where
  below_greater j _ := by
    rcases Nat.eq_zero_or_pos ((F32.units 0 + F32.units j) * (2 ^ t * d)) with h | h
    · exact .inr ⟨h.symm, rfl⟩
    · exact .inl h
  above_smaller _ hj := absurd hj (Nat.not_lt_zero _)

/-- A value in the lower half of the gap above `p`, or in its middle with `p` even, is rounded down to `p`. -/
theorem F32.NearestPattern.of_lower_half {p n t : Nat} (hle : F32.units p * 2 ^ t ≤ n)
    (hhalf : 2 * n < (F32.units p + F32.units (p + 1)) * 2 ^ t
      ∨ (2 * n = (F32.units p + F32.units (p + 1)) * 2 ^ t ∧ p % 2 = 0)) : F32.NearestPattern p n 1 t where
  below_greater j hj := by
    have hmono : F32.units (p + 1) * 2 ^ t ≤ F32.units j * 2 ^ t :=
      Nat.mul_le_mul_right _ (F32.units_strictMono.monotone hj)
    simp only [mul_one, add_mul] at hhalf ⊢
    omega
  above_smaller j hj := by
    have hmono : F32.units j * 2 ^ t < F32.units p * 2 ^ t :=
      Nat.mul_lt_mul_of_pos_right (F32.units_strictMono hj) (Nat.two_pow_pos t)
    simp only [mul_one, add_mul]
    omega

/-- A value in the upper half of the gap below `p + 1`, or in its middle with `p` odd, is rounded up to `p + 1`. -/
theorem F32.NearestPattern.of_upper_half {p n t : Nat} (hlt : n < F32.units (p + 1) * 2 ^ t)
    (hhalf : (F32.units p + F32.units (p + 1)) * 2 ^ t < 2 * n
      ∨ ((F32.units p + F32.units (p + 1)) * 2 ^ t = 2 * n ∧ p % 2 = 1)) : F32.NearestPattern (p + 1) n 1 t where
  below_greater j hj := by
    have hmono : F32.units (p + 1) * 2 ^ t < F32.units j * 2 ^ t :=
      Nat.mul_lt_mul_of_pos_right (F32.units_strictMono hj) (Nat.two_pow_pos t)
    simp only [mul_one, add_mul]
    omega
  above_smaller j hj := by
    have hmono : F32.units j * 2 ^ t ≤ F32.units p * 2 ^ t :=
      Nat.mul_le_mul_right _ (F32.units_strictMono.monotone (Nat.lt_succ_iff.mp hj))
    simp only [mul_one, add_mul] at hhalf ⊢
    omega

/-- Two values that lie on the same side of every middle are rounded alike. -/
theorem F32.NearestPattern.congr {p n d t n' d' t' : Nat} (h : F32.NearestPattern p n d t)
    (hlt : ∀ c, 2 * n < c * (2 ^ t * d) ↔ 2 * n' < c * (2 ^ t' * d'))
    (hgt : ∀ c, c * (2 ^ t * d) < 2 * n ↔ c * (2 ^ t' * d') < 2 * n') : F32.NearestPattern p n' d' t' where
  below_greater j hj := by
    have := h.below_greater j hj
    have := hlt (F32.units p + F32.units j)
    have := hgt (F32.units p + F32.units j)
    omega
  above_smaller j hj := by
    have := h.above_smaller j hj
    have := hlt (F32.units p + F32.units j)
    have := hgt (F32.units p + F32.units j)
    omega

/-- The distance from the nearest pattern's magnitude to the value is the least one, and where another pattern's is equal
the nearest pattern is even. -/
theorem F32.NearestPattern.dist_le {p n d t : Nat} (hd : 0 < d) (h : F32.NearestPattern p n d t) (j : Nat) :
    ((F32.units p * (2 ^ t * d) : Nat) - n : Int).natAbs < ((F32.units j * (2 ^ t * d) : Nat) - n : Int).natAbs
      ∨ (((F32.units p * (2 ^ t * d) : Nat) - n : Int).natAbs = ((F32.units j * (2 ^ t * d) : Nat) - n : Int).natAbs
        ∧ (p = j ∨ p % 2 = 0)) := by
  have hpos : 0 < 2 ^ t * d := Nat.mul_pos (Nat.two_pow_pos t) hd
  have hmono {i k : Nat} (hik : i < k) : F32.units i * (2 ^ t * d) < F32.units k * (2 ^ t * d) :=
    Nat.mul_lt_mul_of_pos_right (F32.units_strictMono hik) hpos
  rcases lt_trichotomy p j with hj | rfl | hj
  · have hlt := hmono hj
    have hmid := h.below_greater j hj
    rw [add_mul] at hmid
    omega
  · exact .inr ⟨rfl, .inl rfl⟩
  · have hlt := hmono hj
    have hmid := h.above_smaller j hj
    rw [add_mul] at hmid
    omega

/-- No value of the other sign is nearer than the nearest pattern's, since 0 already stands between. -/
theorem F32.NearestPattern.dist_le_other_sign {p n d t : Nat} (hd : 0 < d) (h : F32.NearestPattern p n d t) (a : Nat) :
    ((F32.units p * (2 ^ t * d) : Nat) - n : Int).natAbs < a + n
      ∨ (((F32.units p * (2 ^ t * d) : Nat) - n : Int).natAbs = a + n ∧ p % 2 = 0) := by
  have hzero := h.dist_le hd 0
  simp only [F32.units_zero, zero_mul, Nat.cast_zero, zero_sub, Int.natAbs_neg, Int.natAbs_natCast] at hzero
  omega

/-- The overflow threshold is the middle between the largest finite value and the infinity's pattern (R12). -/
theorem F32.units_overflow (t d : Nat) :
    (((F32.units 0x7F7FFFFF + F32.units 0x7F800000) * (2 ^ t * d) : Nat) : Int) = 2 * (overflowAt (149 + t) * d) := by
  rw [F32.units_maxFinite, F32.units_infinity, overflowAt, show 103 + (149 + t) = 252 + t by omega, pow_add]
  push_cast
  ring

theorem F32.NearestPattern.finite_iff {p n d t : Nat} (hd : 0 < d) (h : F32.NearestPattern p n d t) :
    p < 0x7F800000 ↔ (n : Int) < overflowAt (149 + t) * d := by
  have hover := F32.units_overflow t d
  rw [add_mul] at hover
  have hpos : 0 < 2 ^ t * d := Nat.mul_pos (Nat.two_pow_pos t) hd
  constructor
  · intro hp
    have hmono : F32.units p * (2 ^ t * d) ≤ F32.units 0x7F7FFFFF * (2 ^ t * d) :=
      Nat.mul_le_mul_right _ (F32.units_strictMono.monotone (by omega))
    have hmid := h.below_greater _ hp
    rw [add_mul] at hmid
    by_cases hmax : p = 0x7F7FFFFF
    · subst hmax
      omega
    · have hstrict : F32.units p * (2 ^ t * d) < F32.units 0x7F7FFFFF * (2 ^ t * d) :=
        Nat.mul_lt_mul_of_pos_right (F32.units_strictMono (by omega)) hpos
      omega
  · intro hn
    by_contra hp
    have hmono : F32.units 0x7F800000 * (2 ^ t * d) ≤ F32.units p * (2 ^ t * d) :=
      Nat.mul_le_mul_right _ (F32.units_strictMono.monotone (by omega))
    have hmid := h.above_smaller 0x7F7FFFFF (by omega)
    rw [add_mul] at hmid
    omega

/-! ## From patterns to signed values -/

theorem F32.pack_of_lt {neg : Bool} {p : Nat} (hp : p < 0x7F800000) : F32.pack neg p = .fin neg ⟨p, hp⟩ := dif_pos hp

theorem F32.pack_of_ge {neg : Bool} {p : Nat} (hp : ¬ p < 0x7F800000) : F32.pack neg p = .inf neg := dif_neg hp

/-- The integer of a sign and a magnitude. -/
def signed (neg : Bool) (n : Nat) : Int := if neg then -(n : Int) else n

theorem F32.value149_fin (neg : Bool) (mag : Fin 0x7F800000) :
    F32.value149 (.fin neg mag) = signed neg (F32.units mag) := rfl

theorem F32.value149_positive (mag : Fin 0x7F800000) : F32.value149 (.fin false mag) = (F32.units mag : Int) := rfl

theorem signed_zero (neg : Bool) : signed neg 0 = 0 := by
  cases neg <;> rfl

theorem signed_not (neg : Bool) (n : Nat) : signed (!neg) n = -signed neg n := by
  cases neg <;> simp [signed]

theorem signed_add_same (neg : Bool) (m n : Nat) : signed neg m + signed neg n = signed neg (m + n) := by
  cases neg with
  | false => rfl
  | true => exact (neg_add _ _).symm

theorem signed_sub_of_le (neg : Bool) {m n : Nat} (h : n ≤ m) : signed neg m - signed neg n = signed neg (m - n) := by
  cases neg with
  | false => exact (Nat.cast_sub h).symm
  | true =>
    simp only [signed, if_true]
    omega

theorem signed_mul_natCast (neg : Bool) (n k : Nat) : signed neg n * k = signed neg (n * k) := by
  cases neg <;> simp [signed]

theorem signed_mul_signed (s t : Bool) (m n : Nat) : signed s m * signed t n = signed (s ^^ t) (m * n) := by
  cases s <;> cases t <;> simp [signed]

theorem sign_signed (neg : Bool) {n : Nat} (hn : 0 < n) : (signed neg n).sign = signed neg 1 := by
  cases neg <;> simp [signed, hn, Int.sign_eq_one_of_pos]

@[simp] theorem natAbs_signed (neg : Bool) (n : Nat) : (signed neg n).natAbs = n := by
  cases neg <;> simp [signed]

theorem neg_eq_decide_signed_neg {neg : Bool} {n : Nat} (hn : 0 < n) : neg = decide (signed neg n < 0) := by
  cases neg <;> simp [signed, hn]

theorem natAbs_signed_sub_same (neg : Bool) (a n : Nat) :
    (signed neg a - signed neg n).natAbs = ((a : Int) - n).natAbs := by
  cases neg with
  | false => rfl
  | true =>
    simp only [signed, if_true]
    omega

theorem natAbs_signed_not_sub (neg : Bool) (a n : Nat) : (signed (!neg) a - signed neg n).natAbs = a + n := by
  cases neg <;> simp only [signed, Bool.not_true, Bool.not_false, if_true, if_false, Bool.false_eq_true] <;> omega

/-- The datum of a nearest pattern is the nearest binary32 value in the sense of the obligations. -/
theorem F32.NearestPattern.isNearestQuot {p n d t : Nat} (hd : 0 < d) (h : F32.NearestPattern p n d t) (neg : Bool) :
    (F32.pack neg p).IsNearestQuot (signed neg n) d (149 + t) := by
  have hfin := h.finite_iff hd
  by_cases hp : p < 0x7F800000
  · rw [F32.pack_of_lt hp]
    refine ⟨by simpa using hfin.mp hp, fun neg' m => ?_⟩
    have hscale (b : Bool) (a : Nat) : signed b a * 2 ^ (149 + t - 149) * d = signed b (a * (2 ^ t * d)) := by
      rw [Nat.add_sub_cancel_left, ← mul_assoc a, ← signed_mul_natCast, ← signed_mul_natCast]
      push_cast
      rfl
    simp only [F32.value149_fin, hscale, natAbs_signed_sub_same]
    rcases Bool.eq_or_eq_not neg' neg with rfl | rfl
    · rw [natAbs_signed_sub_same]
      exact (h.dist_le hd m).imp_right fun ⟨heq, heven⟩ => ⟨heq, heven.imp_left fun hval => by rw [hval]⟩
    · rw [natAbs_signed_not_sub]
      exact (h.dist_le_other_sign hd _).imp_right fun ⟨heq, heven⟩ => ⟨heq, .inr heven⟩
  · rw [F32.pack_of_ge hp]
    have hover : overflowAt (149 + t) * d ≤ n := by
      rw [← not_lt, ← hfin]
      exact hp
    have hpos : 0 < overflowAt (149 + t) * d := by
      unfold overflowAt
      positivity
    exact ⟨by simpa using hover, neg_eq_decide_signed_neg (by omega)⟩

/-! ## The rounding -/

theorem highBit_eq_log {fuel x : Nat} (hx : 0 < x) (h : x < 2 ^ 2 ^ fuel) : highBit fuel x = Nat.log 2 x := by
  induction fuel generalizing x with
  | zero =>
    obtain rfl : x = 1 := by rw [pow_zero, pow_one] at h; omega
    simp [highBit]
  | succ i ih =>
    rw [highBit, Nat.shiftRight_eq_div_pow]
    split
    next hlow => exact ih hx ((Nat.div_eq_zero_iff_lt (Nat.two_pow_pos _)).mp hlow)
    next hhigh =>
      have hle : 2 ^ 2 ^ i ≤ x := (Nat.div_ne_zero_iff.mp hhigh).2
      have hlt : x / 2 ^ 2 ^ i < 2 ^ 2 ^ i := by
        rwa [Nat.div_lt_iff_lt_mul (Nat.two_pow_pos _), ← pow_add, ← two_mul, ← pow_succ']
      rw [ih (Nat.pos_of_ne_zero hhigh) hlt, Nat.log_div_base_pow,
        Nat.add_sub_cancel' (Nat.le_log_of_pow_le Nat.one_lt_two hle)]

/-- How many bits of `m` the rounding drops, in units of `2^-(149 + t)`. -/
def droppedBits (m t : Nat) : Nat := max (Nat.log 2 m) (t + 23) - 23

/-- What is kept fits into 24 bits, and fills them unless the quantum is the least one. -/
theorem significand_bounds {m : Nat} (hm : 0 < m) (t : Nat) :
    t ≤ droppedBits m t ∧ m / 2 ^ droppedBits m t < 16777216
      ∧ (droppedBits m t - t = 0 ∨ 8388608 ≤ m / 2 ^ droppedBits m t) := by
  unfold droppedBits
  generalize hk : max (Nat.log 2 m) (t + 23) - 23 = k
  obtain ⟨htk, hlog, hplace⟩ : t ≤ k ∧ Nat.log 2 m < k + 24 ∧ (k - t = 0 ∨ k + 23 = Nat.log 2 m) := by omega
  refine ⟨htk, ?_, hplace.imp_right fun hfull => ?_⟩
  · rw [Nat.div_lt_iff_lt_mul (Nat.two_pow_pos k), show 16777216 = 2 ^ 24 from rfl, ← pow_add, add_comm]
    exact Nat.lt_pow_of_log_lt Nat.one_lt_two hlog
  · rw [Nat.le_div_iff_mul_le (Nat.two_pow_pos k), show 8388608 = 2 ^ 23 from rfl, ← pow_add, add_comm, hfull]
    exact Nat.pow_log_le_self 2 hm.ne'

theorem F32.roundScaled_zero (neg : Bool) (s : Nat) : F32.roundScaled neg 0 s = F32.pack neg 0 := by
  unfold F32.roundScaled
  rfl

theorem F32.roundScaled_of_pos {m t : Nat} (hpos : 0 < m) (hm : m < 2 ^ 2 ^ 10) (neg : Bool) :
    F32.roundScaled neg m (149 + t) =
      let k := droppedBits m t
      F32.pack neg ((k - t) * 8388608
        + if 2 ^ k < 2 * (m % 2 ^ k) ∨ (2 * (m % 2 ^ k) = 2 ^ k ∧ m / 2 ^ k % 2 = 1) then m / 2 ^ k + 1
          else m / 2 ^ k) := by
  obtain ⟨i, rfl⟩ := Nat.exists_eq_add_one.mpr hpos
  unfold F32.roundScaled
  simp only [droppedBits, highBit_eq_log hpos hm, Nat.shiftRight_eq_div_pow, Nat.add_sub_cancel_left,
    show 149 + t - 126 = t + 23 by omega]
  rfl

/-- The rounding finds the nearest pattern (R12). -/
theorem F32.roundScaled_eq_pack {m t : Nat} (hm : m < 2 ^ 2 ^ 10) (neg : Bool) :
    ∃ p, F32.roundScaled neg m (149 + t) = F32.pack neg p ∧ F32.NearestPattern p m 1 t := by
  rcases Nat.eq_zero_or_pos m with rfl | hpos
  · exact ⟨0, F32.roundScaled_zero neg _, .zero⟩
  · rw [F32.roundScaled_of_pos hpos hm]
    dsimp only
    obtain ⟨htk, hlt, hfull⟩ := significand_bounds hpos t
    generalize droppedBits m t = k at *
    have hsplit : m / 2 ^ k * 2 ^ k + m % 2 ^ k = m := Nat.div_add_mod' m (2 ^ k)
    have hrem : m % 2 ^ k < 2 ^ k := Nat.mod_lt _ (Nat.two_pow_pos k)
    generalize m % 2 ^ k = r at *
    generalize m / 2 ^ k = q at *
    have hpow (a : Nat) : a * 2 ^ (k - t) * 2 ^ t = a * 2 ^ k := by rw [mul_assoc, ← pow_add, Nat.sub_add_cancel htk]
    have hlow : F32.units ((k - t) * 8388608 + q) * 2 ^ t = q * 2 ^ k := by
      rw [F32.units_place hlt.le hfull, hpow]
    have hhigh : F32.units ((k - t) * 8388608 + q + 1) * 2 ^ t = q * 2 ^ k + 2 ^ k := by
      rw [add_assoc, F32.units_place (q := q + 1) (by omega) (by omega), hpow, Nat.succ_mul]
    refine ⟨_, rfl, ?_⟩
    split
    next hup =>
      rw [← add_assoc]
      refine .of_upper_half (by omega) ?_
      rw [add_mul]
      omega
    next hdown =>
      refine .of_lower_half (by omega) ?_
      rw [add_mul]
      omega

theorem F32.roundScaled_isNearest {m t : Nat} (hm : m < 2 ^ 2 ^ 10) (neg : Bool) :
    (F32.roundScaled neg m (149 + t)).IsNearest (signed neg m) (149 + t) := by
  obtain ⟨p, hp, hnear⟩ := F32.roundScaled_eq_pack (t := t) hm neg
  exact hp ▸ hnear.isNearestQuot Nat.one_pos neg

/-! ## Operations on finite operands -/

theorem lt_two_pow_of_le {n k l : Nat} (hn : n < 2 ^ k) (hkl : k ≤ l) : n < 2 ^ l :=
  hn.trans_le (Nat.pow_le_pow_right Nat.two_pos hkl)

theorem F32.exists_fin {x : F32} (hx : x.isFinite = true) : ∃ s m, x = .fin s m := by
  cases x with
  | nan => simp [F32.isFinite] at hx
  | inf s => simp [F32.isFinite] at hx
  | fin s m => exact ⟨s, m, rfl⟩

theorem F32.add_fin (s t : Bool) (x y : Fin 0x7F800000) :
    F32.add (.fin s x) (.fin t y) = F32.addFinite s (F32.units x) t (F32.units y) := by
  unfold F32.add
  rfl

theorem F32.mul_fin (s t : Bool) (x y : Fin 0x7F800000) :
    F32.mul (.fin s x) (.fin t y) = F32.roundScaled (s ^^ t) (F32.units x * F32.units y) 298 := by
  unfold F32.mul
  rfl

theorem F32.div_fin (s t : Bool) (x : Fin 0x7F800000) {y : Fin 0x7F800000} (hy : y.val ≠ 0) :
    F32.div (.fin s x) (.fin t y) = F32.roundQuot (s ^^ t) (F32.units x) (F32.units y) := by
  unfold F32.div
  exact if_neg hy

theorem F32.sqrt_zero (s : Bool) : F32.sqrt (.fin s 0) = .fin s 0 := by
  unfold F32.sqrt
  rfl

theorem F32.sqrt_negative {x : Fin 0x7F800000} (hx : x ≠ 0) : F32.sqrt (.fin true x) = .nan := by
  unfold F32.sqrt
  exact if_neg (Fin.val_ne_zero_iff.mpr hx)

/-! ### Sum and difference -/

theorem F32.addFinite_isNearest (s t : Bool) {x y : Nat} (h : x + y < 2 ^ 2 ^ 10) :
    (F32.addFinite s x t y).IsNearest (signed s x + signed t y) 149 := by
  unfold F32.addFinite
  split
  next hsame =>
    subst hsame
    rw [signed_add_same]
    exact F32.roundScaled_isNearest (t := 0) h s
  next hother =>
    obtain rfl : t = !s := (Bool.eq_or_eq_not t s).resolve_left (Ne.symm hother)
    rw [signed_not, ← sub_eq_add_neg]
    split
    next heq =>
      rw [heq, sub_self]
      exact F32.NearestPattern.zero.isNearestQuot (t := 0) Nat.one_pos false
    next hne =>
      split
      next hlt =>
        rw [signed_sub_of_le s hlt.le]
        exact F32.roundScaled_isNearest (t := 0) (by omega) s
      next hge =>
        rw [← neg_sub, signed_sub_of_le s (not_lt.mp hge), ← signed_not]
        exact F32.roundScaled_isNearest (t := 0) (by omega) (!s)

theorem F32.add_fin_isNearest (s t : Bool) (x y : Fin 0x7F800000) :
    (F32.add (.fin s x) (.fin t y)).IsNearest (signed s (F32.units x) + signed t (F32.units y)) 149 := by
  rw [F32.add_fin]
  refine F32.addFinite_isNearest s t (lt_two_pow_of_le (k := 24 + 253 + 1) ?_ (by decide))
  rw [pow_succ, mul_two]
  exact Nat.add_lt_add (F32.units_lt x) (F32.units_lt y)

/-- Settles O55: a sum of two finite values is an exact sum of units, rounded once; a difference is the sum with the second
sign flipped. -/
theorem additionRoundsToNearestEven : Obligations.AdditionRoundsToNearestEven := by
  intro x y hx hy
  obtain ⟨s, x, rfl⟩ := F32.exists_fin hx
  obtain ⟨t, y, rfl⟩ := F32.exists_fin hy
  refine ⟨F32.add_fin_isNearest s t x y, ?_⟩
  rw [F32.sub, F32.neg, sub_eq_add_neg, F32.value149_fin, F32.value149_fin, ← signed_not]
  exact F32.add_fin_isNearest s (!t) x y

/-! ### Product -/

/-- Settles O56: the product of two finite values is an exact product of units, rounded once. -/
theorem multiplicationRoundsToNearestEven : Obligations.MultiplicationRoundsToNearestEven := by
  intro x y hx hy
  obtain ⟨s, x, rfl⟩ := F32.exists_fin hx
  obtain ⟨t, y, rfl⟩ := F32.exists_fin hy
  rw [F32.mul_fin, F32.value149_fin, F32.value149_fin, signed_mul_signed]
  refine F32.roundScaled_isNearest (t := 149) ?_ _
  refine lt_two_pow_of_le (k := 24 + 253 + (24 + 253)) ?_ (by decide)
  rw [pow_add 2 (24 + 253)]
  exact Nat.mul_lt_mul'' (F32.units_lt x) (F32.units_lt y)

/-! ### The sticky bit

Quotient and root are cut off to an integer `q`, the largest one with `g q ≤ n` for an increasing `g`, and a bit below it
says whether anything was cut off. Such a number lies on the same side of an even number as the exact value does. -/

/-- `q` with a bit below it that is clear where `q` is exact. -/
def withSticky (q : Nat) (isExact : Prop) [Decidable isExact] : Nat := 2 * q + if isExact then 0 else 1

section Sticky
variable {g : Nat → Nat} {q n : Nat}

theorem withSticky_lt_iff (hg : StrictMono g) (hle : g q ≤ n) (hlt : n < g (q + 1)) (e : Nat) :
    withSticky q (g q = n) < 2 * e ↔ n < g e := by
  have hq : withSticky q (g q = n) < 2 * e ↔ q < e := by
    unfold withSticky
    split <;> omega
  rw [hq]
  constructor
  · exact fun h => hlt.trans_le (hg.monotone h)
  · exact fun h => hg.lt_iff_lt.mp (hle.trans_lt h)

theorem lt_withSticky_iff (hg : StrictMono g) (hle : g q ≤ n) (hlt : n < g (q + 1)) (e : Nat) :
    2 * e < withSticky q (g q = n) ↔ g e < n := by
  rcases lt_trichotomy e q with h | rfl | h
  · have hbelow := hg h
    unfold withSticky
    split <;> omega
  · unfold withSticky
    split <;> omega
  · have habove : g (q + 1) ≤ g e := hg.monotone h
    unfold withSticky
    split <;> omega

end Sticky

/-! ### Quotient -/

theorem F32.roundQuot_eq_withSticky (neg : Bool) (n d : Nat) :
    F32.roundQuot neg n d
      = F32.roundScaled neg (withSticky ((n <<< 300) / d) ((n <<< 300) / d * d = n <<< 300)) 301 := by
  unfold F32.roundQuot
  cases n with
  | zero => simp [withSticky, F32.roundScaled_zero]
  | succ i =>
    have hexact : ((i + 1) <<< 300) % d = 0 ↔ ((i + 1) <<< 300) / d * d = (i + 1) <<< 300 := by
      rw [← Nat.dvd_iff_mod_eq_zero, Nat.dvd_iff_div_mul_eq]
    simp only [hexact, withSticky]

theorem shiftLeft_lt {n i j : Nat} (hn : n < 2 ^ i) : n <<< j < 2 ^ (i + j) := by
  rw [Nat.shiftLeft_eq, pow_add]
  exact Nat.mul_lt_mul_of_pos_right hn (Nat.two_pow_pos j)

theorem withSticky_lt_of_lt {q n i : Nat} {isExact : Prop} [Decidable isExact] (hq : q ≤ n) (hn : n < 2 ^ i) :
    withSticky q isExact < 2 ^ (i + 1) := by
  rw [withSticky, pow_succ]
  split <;> omega

theorem F32.roundQuot_isNearestQuot (neg : Bool) {n d : Nat} (hn : n < 2 ^ (24 + 253)) (hd : 0 < d) :
    (F32.roundQuot neg n d).IsNearestQuot (signed neg (n * 2 ^ 149)) d 149 := by
  rw [F32.roundQuot_eq_withSticky]
  have hmono : StrictMono (· * d) := fun a b hab => Nat.mul_lt_mul_of_pos_right hab hd
  have hle : (n <<< 300) / d * d ≤ n <<< 300 := Nat.div_mul_le_self _ _
  have hlt : n <<< 300 < ((n <<< 300) / d + 1) * d := Nat.lt_mul_of_div_lt (Nat.lt_succ_self _) hd
  have hsmall : withSticky ((n <<< 300) / d) ((n <<< 300) / d * d = n <<< 300) < 2 ^ 2 ^ 10 :=
    lt_two_pow_of_le (withSticky_lt_of_lt (Nat.div_le_self _ _) (shiftLeft_lt hn)) (by decide)
  obtain ⟨p, hp, hnear⟩ := F32.roundScaled_eq_pack (t := 152) hsmall neg
  have hscale (c : Nat) : c * (2 ^ 152 * 1) = 2 * (2 * (c * 2 ^ 150)) := by ring
  have hquot (c : Nat) : c * 2 ^ 150 * d = c * (2 ^ 0 * d) * 2 ^ 150 := by ring
  have hnum : n <<< 300 = 2 * (n * 2 ^ 149) * 2 ^ 150 := by
    rw [show 300 = 1 + 149 + 150 from rfl, Nat.shiftLeft_add, Nat.shiftLeft_add]
    simp only [Nat.shiftLeft_eq]
    ring
  have hpos : 0 < 2 ^ 150 := Nat.two_pow_pos 150
  rw [hp]
  refine (hnear.congr (n' := n * 2 ^ 149) (d' := d) (t' := 0) (fun c => ?_) fun c => ?_).isNearestQuot hd neg
  · rw [hscale, Nat.mul_lt_mul_left Nat.two_pos, withSticky_lt_iff hmono hle hlt, hquot, hnum,
      Nat.mul_lt_mul_right hpos]
  · rw [hscale, Nat.mul_lt_mul_left Nat.two_pos, lt_withSticky_iff hmono hle hlt, hquot, hnum,
      Nat.mul_lt_mul_right hpos]

/-! ### Square root -/

theorem isqrtBits_eq_sqrt {b n r : Nat} (hle : r * r ≤ n) (hlt : n < (r + 2 ^ b) * (r + 2 ^ b)) :
    isqrtBits b n r = Nat.sqrt n := by
  induction b generalizing r with
  | zero => exact Nat.eq_sqrt.mpr ⟨hle, hlt⟩
  | succ i ih =>
    rw [isqrtBits]
    split
    next hbit =>
      refine ih hbit ?_
      rwa [add_assoc, ← two_mul, ← pow_succ']
    next hbit => exact ih hle (not_le.mp hbit)

/-- The middle between two neighbouring magnitudes needs 25 bits, so its square needs more bits than a magnitude has: no root
is a tie. -/
theorem F32.units_mul_ne_sq_middle {m : Nat} (hm : F32.units m ≠ 0) (p : Nat) :
    F32.units m * 2 ^ 151 ≠ (F32.units p + F32.units (p + 1)) ^ 2 := by
  obtain ⟨i, a, rfl, ha, hi⟩ := F32.exists_place m
  obtain ⟨j, q, rfl, hq, hj⟩ := F32.exists_place p
  rw [F32.units_place ha.le hi] at hm ⊢
  rw [add_assoc, F32.units_place hq.le hj, F32.units_place (q := q + 1) (by omega) (by omega)]
  intro heq
  have hbits : a * 2 ^ (i + 151) = (2 * q + 1) ^ 2 * 2 ^ (2 * j) := by
    rw [pow_add, ← mul_assoc, heq]
    ring
  have hapos : 0 < a := Nat.pos_of_ne_zero (left_ne_zero_of_mul hm)
  have hodd : Odd ((2 * q + 1) ^ 2) := (odd_two_mul_add_one q).pow
  rcases le_or_gt (i + 151) (2 * j) with hle | hgt
  · have hfull : 8388608 ≤ q := by omega
    have hsq : (2 * q + 1) ^ 2 ≤ a := by
      refine Nat.le_of_mul_le_mul_right ?_ (Nat.two_pow_pos (i + 151))
      rw [hbits]
      exact Nat.mul_le_mul_left _ (Nat.pow_le_pow_right Nat.two_pos hle)
    nlinarith
  · obtain ⟨e, he⟩ := Nat.exists_eq_add_of_lt hgt
    have heven : (2 * q + 1) ^ 2 = 2 * (a * 2 ^ e) := by
      refine Nat.eq_of_mul_eq_mul_right (Nat.two_pow_pos (2 * j)) ?_
      rw [← hbits, he]
      ring
    exact Nat.not_odd_iff_even.mpr (heven ▸ even_two_mul _) hodd

theorem F32.sqrt_eq_withSticky {x : Fin 0x7F800000} (hx : x ≠ 0) :
    let n := F32.units x <<< 151
    F32.sqrt (.fin false x) = F32.roundScaled false (withSticky n.sqrt (n.sqrt * n.sqrt = n)) 151 := by
  have hroot : isqrtBits 216 (F32.units x <<< 151) 0 = (F32.units x <<< 151).sqrt := by
    refine isqrtBits_eq_sqrt (Nat.zero_le _) ?_
    rw [zero_add, ← pow_add]
    exact lt_two_pow_of_le (shiftLeft_lt (F32.units_lt x)) (by decide)
  have hval : x.val ≠ 0 := Fin.val_ne_zero_iff.mpr hx
  unfold F32.sqrt
  simp only [if_neg hval, hroot, withSticky]
  rfl

/-- Where no middle between neighbours is the root itself, the pattern nearest to the cut-off root of `n`, taken in units of
`2^-151`, has the root strictly on its own side of the middle with any other pattern. -/
theorem F32.NearestPattern.sqrt_side {p n : Nat}
    (h : F32.NearestPattern p (withSticky n.sqrt (n.sqrt * n.sqrt = n)) 1 2)
    (hnotie : ∀ i, n ≠ (F32.units i + F32.units (i + 1)) * (F32.units i + F32.units (i + 1))) (j : Nat) :
    (p < j → n < (F32.units p + F32.units j) * (F32.units p + F32.units j))
      ∧ (j < p → (F32.units p + F32.units j) * (F32.units p + F32.units j) < n) := by
  have hmono : StrictMono fun e : Nat => e * e := fun a b hab => Nat.mul_self_lt_mul_self hab
  refine ⟨fun hj => ?_, fun hj => ?_⟩
  · have hle : n ≤ (F32.units p + F32.units (p + 1)) * (F32.units p + F32.units (p + 1)) := by
      have hmid := h.below_greater (p + 1) (Nat.lt_succ_self p)
      rw [← not_lt, ← lt_withSticky_iff hmono (Nat.sqrt_le n) (Nat.lt_succ_sqrt n)]
      omega
    have hunits : F32.units (p + 1) ≤ F32.units j := F32.units_strictMono.monotone hj
    exact (hle.lt_of_ne (hnotie p)).trans_le (hmono.monotone (Nat.add_le_add_left hunits _))
  · obtain ⟨i, rfl⟩ := Nat.exists_eq_add_one.mpr (Nat.zero_lt_of_lt hj)
    have hle : (F32.units i + F32.units (i + 1)) * (F32.units i + F32.units (i + 1)) ≤ n := by
      have hmid := h.above_smaller i (Nat.lt_succ_self i)
      rw [← not_lt, ← withSticky_lt_iff hmono (Nat.sqrt_le n) (Nat.lt_succ_sqrt n)]
      omega
    have hunits : F32.units j ≤ F32.units i := F32.units_strictMono.monotone (Nat.lt_succ_iff.mp hj)
    rw [add_comm]
    exact (hmono.monotone (Nat.add_le_add_right hunits _)).trans_lt (hle.lt_of_ne (hnotie i).symm)

theorem F32.sqrt_eq_pack {x : Fin 0x7F800000} (hx : x ≠ 0) :
    ∃ p, F32.sqrt (.fin false x) = F32.pack false p ∧ ∀ j,
      (p < j → F32.units x * 2 ^ 151 < (F32.units p + F32.units j) ^ 2)
        ∧ (j < p → (F32.units p + F32.units j) ^ 2 < F32.units x * 2 ^ 151) := by
  have hnotie := F32.units_mul_ne_sq_middle (F32.units_eq_zero.not.mpr (Fin.val_ne_zero_iff.mpr hx))
  have hsmall : F32.units x <<< 151 < 2 ^ (24 + 253 + 151) := shiftLeft_lt (F32.units_lt x)
  rw [F32.sqrt_eq_withSticky hx]
  simp only [← Nat.shiftLeft_eq, pow_two] at hnotie ⊢
  generalize F32.units x <<< 151 = n at *
  have hround : withSticky n.sqrt (n.sqrt * n.sqrt = n) < 2 ^ 2 ^ 10 :=
    lt_two_pow_of_le (withSticky_lt_of_lt (Nat.sqrt_le_self n) hsmall) (by decide)
  obtain ⟨p, hp, hnear⟩ := F32.roundScaled_eq_pack (t := 2) hround false
  exact ⟨p, hp, hnear.sqrt_side hnotie⟩

/-- A root is no overflow: already half of the infinity's magnitude, its middle with 0, is past the root. -/
theorem F32.sqrt_eq_fin {x : Fin 0x7F800000} (hx : x ≠ 0) :
    ∃ r : Fin 0x7F800000, F32.sqrt (.fin false x) = .fin false r ∧ ∀ m : Fin 0x7F800000,
      (r < m → F32.units x * 2 ^ 151 < (F32.units r + F32.units m) ^ 2)
        ∧ (m < r → (F32.units r + F32.units m) ^ 2 < F32.units x * 2 ^ 151) := by
  obtain ⟨p, hp, hside⟩ := F32.sqrt_eq_pack hx
  have hfin : p < 0x7F800000 := by
    by_contra hover
    have hzero := (hside 0).2 (by omega)
    have hbig : 2 ^ 24 * 2 ^ 253 ≤ F32.units p :=
      F32.units_infinity ▸ F32.units_strictMono.monotone (not_lt.mp hover)
    have hsmall := F32.units_lt x
    rw [pow_add] at hsmall
    rw [F32.units_zero, add_zero] at hzero
    nlinarith
  rw [hp, F32.pack_of_lt hfin]
  exact ⟨_, rfl, fun m => hside m⟩

/-- Settles O59: the quotient is cut off to `2^-300` and the root to `2^-150`, each with a sticky bit, and rounded once. -/
theorem divisionAndSquareRootRoundToNearestEven : Obligations.DivisionAndSquareRootRoundToNearestEven := by
  refine ⟨fun x y hx hy hne => ?_, fun mag => ?_, fun mag => ?_⟩
  · obtain ⟨s, x, rfl⟩ := F32.exists_fin hx
    obtain ⟨t, y, rfl⟩ := F32.exists_fin hy
    have hy : y.val ≠ 0 := fun h0 => hne (by rw [F32.value149_fin, h0, F32.units_zero, signed_zero])
    have hden : 0 < F32.units y := Nat.pos_of_ne_zero (F32.units_eq_zero.not.mpr hy)
    have hnum : signed s (F32.units x) * (signed t (F32.units y)).sign * 2 ^ 149
        = signed (s ^^ t) (F32.units x * 2 ^ 149) := by
      rw [sign_signed t hden, signed_mul_signed, mul_one, ← signed_mul_natCast]
      rfl
    rw [F32.div_fin s t x hy, F32.value149_fin, F32.value149_fin, hnum, natAbs_signed]
    exact F32.roundQuot_isNearestQuot _ (F32.units_lt x) hden
  · by_cases hmag : mag = 0
    · subst hmag
      refine ⟨0, F32.sqrt_zero false, fun m => ⟨fun hm => ?_, fun hm => absurd hm (Fin.not_lt_zero m)⟩⟩
      have hpos : 0 < F32.units m := Nat.pos_of_ne_zero (F32.units_eq_zero.not.mpr (Fin.val_ne_zero_iff.mpr hm.ne'))
      simpa only [F32.value149_positive, Fin.val_zero, F32.units_zero, Nat.cast_zero, zero_mul, zero_add] using
        pow_pos (Int.natCast_pos.mpr hpos) 2
    · obtain ⟨r, hr, hside⟩ := F32.sqrt_eq_fin hmag
      refine ⟨r, hr, fun m => ?_⟩
      simp only [F32.value149_positive]
      exact_mod_cast hside m
  · split
    next hzero => rw [hzero, F32.sqrt_zero]
    next hneg => exact F32.sqrt_negative hneg

end Sys2Proof

/-!
PROOF. What one instruction can make of a state (`State.Effect`), said once for every invariant of the steps: an invariant is
kept by every step when taking a port word and each effect keep it (`step_keeps`).
-/

namespace Sys2Proof.Machine

/-- What one instruction can make of a state, said once for every invariant of the steps (R132, R164 to R170, R382, R490). -/
inductive State.Effect (s : State) : State → Prop
  | unchanged : Effect s s
  /-- NOTE_ON (R164) -/
  | strike (v : Nat) (pitch vel : Seven) (h : s.victim = some v) : Effect s (s.strike s.victimList v pitch vel)
  /-- a key up that finds a slot (R166) -/
  | release (v : Nat) (pitch : Seven) (h : s.firstMatch pitch = some v) : Effect s (s.release v)
  /-- the SET of a ramped parameter (R382) -/
  | startRamp (r : RampReg) (x : F32) : Effect s (s.startRamp r x)
  /-- SET ECHO_MIX (R444) -/
  | startEchoRamps (x y : F32) : Effect s ((s.startRamp .echoDry x).startRamp .echoWet y)
  /-- SET COMB_KT (R449) -/
  | retune (P : Params) (h : ∀ r, P.ramp r = s.params.ramp r) : Effect s (s.setParams P).retuneCombs
  /-- the SET of another unramped parameter, with what is recomputed from it (R382) -/
  | unramped (P : Params) (C : Coefs) (b : Bus) (h : ∀ r, P.ramp r = s.params.ramp r) :
      Effect s { s with params := P, coefs := C, bus := b }
  /-- TICK (R170) -/
  | tick : Effect s s.advanceRamps.sample
  /-- RESET (R490) -/
  | reset : Effect s { State.resetOf s.cfg with port := s.port, out := s.out, nanDraws := s.nanDraws }

/-- Every SET completes, with one of the effects above (R382). -/
theorem execSetParam_effect (k : Param) (v : Seven) (s : State) : ∃ t, execSetParam k v s = .next t ∧ s.Effect t := by
  cases k with
  | echoMix => exact ⟨_, rfl, .startEchoRamps _ _⟩
  | combKt => exact ⟨_, rfl, .retune _ fun r => by cases r <;> rfl⟩
  | ufType =>
    refine ⟨_, rfl, ?_⟩
    split
    · exact .unchanged
    · exact .unramped _ _ _ fun r => by cases r <;> rfl
  | aChirp | bChirp | cabLocut | cabHicut | cabTilt | echoTime | echoStereo | echoHicut | combAp | combApRes
  | ufEnable | ufCutoff | ufRes | ufShelf => exact ⟨_, rfl, .unramped _ _ _ fun r => by cases r <;> rfl⟩
  | _ => exact ⟨_, rfl, .startRamp _ _⟩

theorem exec_setInstr (k : Param) (v : Seven) (s : State) : exec (k.setInstr v) s = execSetParam k v s := by
  cases k <;> rfl

theorem State.keyUp_effect (s : State) (pitch : Seven) : s.Effect (s.keyUp pitch) := by
  unfold State.keyUp
  split
  next v hv => exact .release v pitch hv
  next => exact .unchanged

/-- Every instruction completes, with one of the effects above. -/
theorem exec_effect (i : Instr) (s : State) : ∃ t, exec i s = .next t ∧ s.Effect t := by
  rw [← Instr.instr_shape i]
  cases i.shape with
  | noteOn pitch vel =>
    cases hv : s.victim with
    | none => exact ⟨s, by simp [InstrShape.instr, exec, execNoteOn, hv], .unchanged⟩
    | some v => exact ⟨_, by simp [InstrShape.instr, exec, execNoteOn, hv], .strike v pitch vel hv⟩
  | noteOnV0 pitch | noteOff pitch _ => exact ⟨_, rfl, s.keyUp_effect pitch⟩
  | set k v => exact exec_setInstr k v s ▸ execSetParam_effect k v s
  | ctrl id v =>
    cases hk : s.cfg.paramOf id with
    | none => exact ⟨s, by simp [InstrShape.instr, exec, execCtrl, hk], .unchanged⟩
    | some k => simpa [InstrShape.instr, exec, execCtrl, hk] using execSetParam_effect k v s
  | tick payload => exact ⟨_, rfl, .tick⟩
  | reset payload => exact ⟨_, rfl, .reset⟩
  | reserved payload => exact ⟨_, rfl, .unchanged⟩

/-- What taking a port word keeps and every effect of an instruction keeps, every step keeps. -/
theorem step_keeps {P : State → Prop} (htaken : ∀ s rest, P s → P (s.taken rest))
    (heffect : ∀ s t, P s → s.Effect t → P t) {s t : State} (hs : P s) (h : step s = .next t) : P t := by
  unfold step at h
  split at h
  next => cases h; exact hs
  next w rest _ =>
    have hu : P (s.taken rest) := htaken s rest hs
    split at h
    next i _ =>
      obtain ⟨t', ht, heff⟩ := exec_effect i (s.taken rest)
      obtain rfl : t' = t := by simpa [ht] using h
      exact heffect _ _ hu heff
    next => cases h; exact hu

end Sys2Proof.Machine

/-!
PROOF. The ramped parameter registers (10_state.md R51, R53): they are independent of each other, they are consistent after
RESET, and every step keeps them so.
-/

namespace Sys2Proof.Machine

/-- Settles O29. -/
theorem rampedRegistersAreIndependent : Obligations.RampedRegistersAreIndependent :=
  fun p x r q => ⟨p.ramp_setRamp x r q, p.unramped_setRamp x r⟩

/-- RESET leaves every ramped register converged at its reset value (R51, R53). -/
theorem ramp_resetParams (r : RampReg) : resetParams.ramp r = Ramp.settled (resetValue r) := by
  cases r with
  | mod x r => cases x <;> cases r <;> rfl
  | _ => rfl

theorem State.rampInv_resetOf (cfg : Config) : (State.resetOf cfg).RampInv :=
  fun r => ramp_resetParams r ▸ Ramp.consistent_settled _

theorem State.RampInv.of_effect {s t : State} (h : s.RampInv) (heff : s.Effect t) : t.RampInv := by
  intro r
  cases heff with
  | unchanged => exact h r
  | strike v pitch vel _ => rw [State.strike_params]; exact h r
  | release v _ _ => rw [State.release_params]; exact h r
  | startRamp q x =>
    rw [State.startRamp_params, Params.ramp_setRamp]
    split
    · exact Ramp.consistent_initRamp _ x
    · exact h r
  | startEchoRamps x y =>
    simp only [State.startRamp_params, Params.ramp_setRamp]
    split
    · exact Ramp.consistent_initRamp _ y
    · split
      · exact Ramp.consistent_initRamp _ x
      · exact h r
  | retune P hP | unramped P C b hP => exact hP r ▸ h r
  | tick => exact Params.ramp_mapRamps _ s.params r ▸ Ramp.consistent_advance (h r)
  | reset => exact State.rampInv_resetOf s.cfg r

/-- Settles O31. -/
theorem resetRampsAreConsistent : Obligations.ResetRampsAreConsistent := State.rampInv_resetOf _

/-- Settles O32, by the effects of an instruction. -/
theorem everyStepKeepsRampsConsistent : Obligations.EveryStepKeepsRampsConsistent :=
  fun _ _ hs => step_keeps (fun _ _ h => h) (fun _ _ => State.RampInv.of_effect) hs

end Sys2Proof.Machine

/-!
PROOF. The allocation lists (10_state.md R49, R50). A slot enters an allocation list with two things, its links and its tag,
and the commands write them apart from each other: `unlink` and `append` move the links, and the tag follows afterwards. So
`State.Queue` says of one list what its registers and links hold, tags left out. What is proved of a list is proved at every
way of cutting it into `as ++ v :: bs`: the links of `v` are the last of `as` and the first of `bs`. `unlink` and `append`
each take both lists from their contents before to their contents after (`State.Queues`), and the three commands that move a
slot are one `unlink` and one `append`.
-/

namespace Sys2Proof.Machine

/-! ## The links and the tag of a slot -/

/-- The links `(prev, next)` of a slot, where it is in the pool (R43). -/
def State.links (s : State) (u : Nat) : Option (Option Nat × Option Nat) :=
  (s.slots[u]?).map fun x => (x.prev, x.next)

/-- The tag of a slot, where it is in the pool (R43). -/
def State.tagOf (s : State) (u : Nat) : Option Tag := (s.slots[u]?).map Slot.tag

theorem State.exists_slot_of_links {s : State} {v : Nat} {p : Option Nat × Option Nat} (h : s.links v = some p) :
    ∃ x, s.slots[v]? = some x ∧ x.prev = p.1 ∧ x.next = p.2 := by
  obtain ⟨x, hx, rfl⟩ := Option.map_eq_some_iff.mp h
  exact ⟨x, hx, rfl, rfl⟩

theorem State.links_unlink {s : State} {l : ListName} {v : Nat} {p n : Option Nat} (hv : s.links v = some (p, n)) (u : Nat) :
    (s.unlink l v).links u = (s.links u).map fun y =>
      (if u = v then none else if n = some u then p else y.1, if u = v then none else if p = some u then n else y.2) := by
  obtain ⟨x, hx, rfl, rfl⟩ := State.exists_slot_of_links hv
  simp only [State.links, State.getElem?_unlink hx, Option.map_map]
  rfl

theorem State.links_append (s : State) (l : ListName) (v u : Nat) :
    (s.append l v).links u = (s.links u).map fun y =>
      (if u = v then (s.list l).tail else y.1,
        if (s.list l).tail = some u then some v else if u = v then none else y.2) := by
  simp only [State.links, State.getElem?_append, Option.map_map]
  rfl

@[simp] theorem State.tagOf_unlink (s : State) (l : ListName) (v u : Nat) : (s.unlink l v).tagOf u = s.tagOf u := by
  cases hx : s.slots[v]? with
  | none => rw [State.unlink_of_none hx]
  | some x =>
    simp only [State.tagOf, State.getElem?_unlink hx, Option.map_map]
    rfl

@[simp] theorem State.tagOf_append (s : State) (l : ListName) (v u : Nat) : (s.append l v).tagOf u = s.tagOf u := by
  simp only [State.tagOf, State.getElem?_append, Option.map_map]
  rfl

@[simp] theorem State.links_strike (s : State) (l : ListName) (v : Nat) (pitch vel : Seven) (u : Nat) :
    (s.strike l v pitch vel).links u = ((s.unlink l v).append .asg v).links u := by
  simp only [State.links, State.getElem?_strike, Option.map_map]
  congr 1
  funext y
  by_cases h : u = v <;> simp [h, struckSlot, Slot.setPitch]

@[simp] theorem State.tagOf_strike (s : State) (l : ListName) (v : Nat) (pitch vel : Seven) (u : Nat) :
    (s.strike l v pitch vel).tagOf u = if u = v then (s.tagOf u).map fun _ => .assigned else s.tagOf u := by
  rw [← State.tagOf_unlink s l v, ← State.tagOf_append (s.unlink l v) .asg v]
  simp only [State.tagOf, State.getElem?_strike, Option.map_map]
  by_cases h : u = v <;> simp only [h, ↓reduceIte] <;> rfl

@[simp] theorem State.links_release (s : State) (v u : Nat) :
    (s.release v).links u = ((s.unlink .asg v).append .rel v).links u := by
  simp only [State.links, State.getElem?_release, Option.map_map]
  congr 1
  funext y
  by_cases h : u = v <;> simp [h]

@[simp] theorem State.tagOf_release (s : State) (v u : Nat) :
    (s.release v).tagOf u = if u = v then (s.tagOf u).map fun _ => .free else s.tagOf u := by
  rw [← State.tagOf_unlink s .asg v, ← State.tagOf_append (s.unlink .asg v) .rel v]
  simp only [State.tagOf, State.getElem?_release, Option.map_map]
  by_cases h : u = v <;> simp only [h, ↓reduceIte] <;> rfl

/-! ## One list, tags left out -/

/-- The registers of a list and the links of its slots hold `xs`, oldest first (R49). -/
structure State.Queue (s : State) (l : ListName) (xs : List Nat) : Prop where
  head : (s.list l).head = xs.head?
  tail : (s.list l).tail = xs.getLast?
  count : (s.list l).count = xs.length
  links : ∀ as v bs, xs = as ++ v :: bs → s.links v = some (as.getLast?, bs.head?)

/-- `Linked` at every way of cutting the list: the recursion of its definition with the slots before the cut kept in view. -/
theorem linked_iff_cuts (slots : List Slot) (tag : Tag) (before : Option Nat) (xs : List Nat) :
    Linked slots tag before xs ↔ ∀ as v bs, xs = as ++ v :: bs →
      ∃ x, slots[v]? = some x ∧ x.tag = tag ∧ x.prev = as.getLast?.or before ∧ x.next = bs.head? := by
  induction xs generalizing before with
  | nil => simp [Linked]
  | cons w ws ih =>
    rw [Linked, ih]
    constructor
    · rintro ⟨hw, hws⟩ as v bs hcut
      obtain ⟨rfl, hwv⟩ | ⟨as', rfl, hcut'⟩ := List.cons_eq_append_iff.mp hcut
      · obtain ⟨rfl, rfl⟩ := List.cons.inj hwv
        exact hw
      · simpa [List.getLast?_cons, Option.or_some] using hws as' v bs hcut'
    · refine fun h => ⟨by simpa using h [] w ws rfl, fun as v bs hcut => ?_⟩
      simpa [List.getLast?_cons, Option.or_some] using h (w :: as) v bs (by rw [hcut]; rfl)

/-- A list of R49 is its queue with the tag on every slot of it. -/
theorem State.hold_iff_queue (s : State) (l : ListName) (tag : Tag) (xs : List Nat) :
    ListRegs.Hold (s.list l) s.slots tag xs ↔ s.Queue l xs ∧ ∀ v ∈ xs, s.tagOf v = some tag := by
  constructor
  · rintro ⟨hhead, htail, hcount, hlinked⟩
    rw [linked_iff_cuts] at hlinked
    refine ⟨⟨hhead, htail, hcount, fun as v bs hcut => ?_⟩, fun v hv => ?_⟩
    · obtain ⟨x, hx, -, hprev, hnext⟩ := hlinked as v bs hcut
      simp [State.links, hx, hprev, hnext]
    · obtain ⟨as, bs, hcut⟩ := List.append_of_mem hv
      obtain ⟨x, hx, htag, -⟩ := hlinked as v bs hcut
      simp [State.tagOf, hx, htag]
  · rintro ⟨⟨hhead, htail, hcount, hlinks⟩, htags⟩
    refine ⟨hhead, htail, hcount, (linked_iff_cuts ..).mpr fun as v bs hcut => ?_⟩
    obtain ⟨x, hx, hprev, hnext⟩ := State.exists_slot_of_links (hlinks as v bs hcut)
    have htag : s.tagOf v = some tag := htags v (by simp [hcut])
    rw [State.tagOf, hx] at htag
    exact ⟨x, hx, Option.some.inj htag, by simpa using hprev, hnext⟩

/-- A queue stands while its registers and the links of its own slots do. -/
theorem State.Queue.congr {s t : State} {l : ListName} {xs : List Nat} (h : s.Queue l xs) (hlist : t.list l = s.list l)
    (hlinks : ∀ u ∈ xs, t.links u = s.links u) : t.Queue l xs where
  head := hlist ▸ h.head
  tail := hlist ▸ h.tail
  count := hlist ▸ h.count
  links as v bs hcut := (hlinks v (by simp [hcut])).trans (h.links as v bs hcut)

/-- Where an element of two lists one after the other stands: in the first list or in the second. -/
theorem cut_of_append {as bs cs ds : List Nat} {u : Nat} (h : as ++ bs = cs ++ u :: ds) :
    (∃ es, as = cs ++ u :: es ∧ ds = es ++ bs) ∨ ∃ es, bs = es ++ u :: ds ∧ cs = as ++ es := by
  obtain ⟨es, hcs, hbs⟩ | ⟨_ | ⟨w, es⟩, has, hds⟩ := List.append_eq_append_iff.mp h
  · exact .inr ⟨es, hbs, hcs⟩
  · exact .inr ⟨[], hds.symm, by simpa using has.symm⟩
  · obtain ⟨rfl, rfl⟩ := List.cons.inj hds
    exact .inl ⟨es, has, rfl⟩

/-- `unlink` takes its slot out of its queue (R160). -/
theorem State.Queue.unlink {s : State} {l : ListName} {as bs : List Nat} {v : Nat} (h : s.Queue l (as ++ v :: bs))
    (hnd : (as ++ v :: bs).Nodup) : (s.unlink l v).Queue l (as ++ bs) := by
  have hv : s.links v = some (as.getLast?, bs.head?) := h.links as v bs rfl
  obtain ⟨x, hx, hprev, hnext⟩ := State.exists_slot_of_links hv
  have hnd' : v ∉ as ++ bs ∧ (as ++ bs).Nodup := List.nodup_cons.mp (List.nodup_middle.mp hnd)
  refine ⟨?_, ?_, ?_, fun cs u ds hcut => ?_⟩
  · rw [State.list_unlink hx, if_pos rfl, hprev, hnext, h.head]
    cases as <;> simp
  · rw [State.list_unlink hx, if_pos rfl, hprev, hnext, h.tail]
    cases bs <;> simp [List.getLast?_append]
  · rw [State.list_unlink hx, if_pos rfl, h.count]
    simp
  · have huv : u ≠ v := fun e => hnd'.1 (by simp [hcut, ← e])
    rw [State.links_unlink hv]
    obtain ⟨es, rfl, rfl⟩ | ⟨es, rfl, rfl⟩ := cut_of_append hcut
    · obtain ⟨hes, hbs⟩ : u ∉ es ∧ u ∉ bs := by simp_all [List.nodup_append]
      have hfirst : bs.head? ≠ some u := fun e => hbs (List.mem_of_head? e)
      have hlast : es.getLast? ≠ some u := fun e => hes (List.mem_of_getLast? e)
      rw [h.links cs u (es ++ v :: bs) (by simp)]
      cases es <;> simp_all [List.getLast?_append]
    · obtain ⟨has, hes⟩ : u ∉ as ∧ u ∉ es := by
        obtain ⟨-, -, hne⟩ := List.nodup_append.mp (List.append_assoc as es _ ▸ hnd'.2)
        have hu : u ∉ as ++ es := fun hu => hne u hu u List.mem_cons_self rfl
        simpa using hu
      have hfirst : es.head? ≠ some u := fun e => hes (List.mem_of_head? e)
      have hlast : as.getLast? ≠ some u := fun e => has (List.mem_of_getLast? e)
      rw [h.links (as ++ v :: es) u ds (by simp)]
      cases es <;> simp_all [List.getLast?_append]

/-- `append` puts its slot at the end of the queue (R161). -/
theorem State.Queue.append {s : State} {l : ListName} {xs : List Nat} {v : Nat} (h : s.Queue l xs) (hnd : xs.Nodup)
    (hv : v ∉ xs) (hpool : v < s.slots.length) : (s.append l v).Queue l (xs ++ [v]) := by
  have htail := h.tail
  have hlast : xs.getLast? ≠ some v := fun e => hv (List.mem_of_getLast? e)
  refine ⟨?_, ?_, ?_, fun as u bs hcut => ?_⟩
  · rw [State.list_append, if_pos rfl, htail, h.head]
    cases xs <;> simp
  · rw [State.list_append, if_pos rfl]
    simp
  · rw [State.list_append, if_pos rfl, h.count]
    simp
  · rw [State.links_append, htail]
    obtain ⟨es, rfl, rfl⟩ | ⟨es, hes, rfl⟩ := cut_of_append hcut
    · have huv : u ≠ v := fun e => hv (by simp [e])
      have hu : u ∉ es := by simp_all [List.nodup_append]
      have hlast' : es.getLast? ≠ some u := fun e => hu (List.mem_of_getLast? e)
      rw [h.links as u es rfl]
      cases es <;> simp_all [List.getLast?_append]
    · obtain ⟨rfl, rfl, rfl⟩ : es = [] ∧ u = v ∧ bs = [] := by simpa [List.singleton_eq_append_iff] using hes
      simp [State.links, hpool, hlast]

/-! ## Both lists -/

/-- Both queues, over contents with every slot at most once. -/
structure State.Queues (s : State) (f : ListName → List Nat) : Prop where
  queue : ∀ l, s.Queue l (f l)
  nodup : ∀ l, (f l).Nodup
  disjoint : ∀ l m, l ≠ m → (f l).Disjoint (f m)

/-- `unlink` takes its slot out of the list it is on and leaves the other list, which does not hold it (R160). -/
theorem State.Queues.unlink {s : State} {f : ListName → List Nat} {l : ListName} {v : Nat} (h : s.Queues f) (hv : v ∈ f l) :
    (s.unlink l v).Queues fun m => (f m).erase v where
  queue m := by
    obtain ⟨as, bs, hcut⟩ := List.append_of_mem hv
    have hl := hcut ▸ h.queue l
    have hnd := hcut ▸ h.nodup l
    have hlinks := hl.links as v bs rfl
    obtain ⟨x, hx, -, -⟩ := State.exists_slot_of_links hlinks
    by_cases hm : m = l
    · have hvas : v ∉ as := fun hmem => (List.nodup_cons.mp (List.nodup_middle.mp hnd)).1 (List.mem_append_left bs hmem)
      rw [hm, hcut, List.erase_append_right _ hvas, List.erase_cons_head]
      exact hl.unlink hnd
    · rw [List.erase_of_not_mem (h.disjoint l m (Ne.symm hm) hv)]
      refine (h.queue m).congr (by rw [State.list_unlink hx, if_neg hm]) fun u hu => ?_
      have hul : u ∉ as ++ v :: bs := hcut ▸ h.disjoint m l hm hu
      have hlast : as.getLast? ≠ some u := fun e => hul (by simp [List.mem_of_getLast? e])
      have hfirst : bs.head? ≠ some u := fun e => hul (by simp [List.mem_of_head? e])
      have huv : u ≠ v := fun e => hul (by simp [e])
      simp [State.links_unlink hlinks, hlast, hfirst, huv]
  nodup m := (h.nodup m).erase v
  disjoint m k hmk _ hm hk := h.disjoint m k hmk (List.mem_of_mem_erase hm) (List.mem_of_mem_erase hk)

/-- `append` makes a slot that is on neither list the youngest of one and leaves the other (R161). -/
theorem State.Queues.append {s : State} {f : ListName → List Nat} {l : ListName} {v : Nat} (h : s.Queues f)
    (hv : ∀ m, v ∉ f m) (hpool : v < s.slots.length) :
    (s.append l v).Queues fun m => if m = l then f m ++ [v] else f m where
  queue m := by
    split
    next hm => exact hm ▸ (h.queue m).append (h.nodup m) (hv m) hpool
    next hm =>
      refine (h.queue m).congr (by rw [State.list_append, if_neg hm]) fun u hu => ?_
      have huv : u ≠ v := fun e => hv m (e ▸ hu)
      have hlast : (f l).getLast? ≠ some u := fun e => h.disjoint m l hm hu (List.mem_of_getLast? e)
      simp [State.links_append, (h.queue l).tail, hlast, huv]
  nodup m := by
    split
    · simpa using (h.nodup m).concat (hv m)
    · exact h.nodup m
  disjoint m k hmk := by
    split <;> split
    next hm hk => exact absurd (hm.trans hk.symm) hmk
    next => simpa using ⟨h.disjoint m k hmk, hv k⟩
    next => simpa using ⟨h.disjoint m k hmk, hv m⟩
    next => exact h.disjoint m k hmk

/-- Both queues stand while the registers of the lists and the links of the slots do. -/
theorem State.Queues.congr {s t : State} {f : ListName → List Nat} (h : s.Queues f) (hlist : ∀ l, t.list l = s.list l)
    (hlinks : ∀ u, t.links u = s.links u) : t.Queues f :=
  ⟨fun l => (h.queue l).congr (hlist l) fun u _ => hlinks u, h.nodup, h.disjoint⟩

/-- A slot that moves from the list it is on to the end of list `m` (R160, R161). -/
theorem State.Queues.move {s : State} {f : ListName → List Nat} {l : ListName} {v : Nat} (h : s.Queues f) (hv : v ∈ f l)
    (hpool : v < s.slots.length) (m : ListName) :
    ((s.unlink l v).append m v).Queues fun k => if k = m then (f k).erase v ++ [v] else (f k).erase v :=
  (h.unlink hv).append (fun k => (h.nodup k).not_mem_erase) (by simpa using hpool)

/-! ## The lists of R50 -/

/-- The tag of the slots on a list (R50). -/
def ListName.tag : ListName → Tag
  | .asg => .assigned
  | .rel => .free

theorem ListName.tag_injective : Function.Injective ListName.tag := by
  rintro (_ | _) (_ | _) h <;> cases h <;> rfl

/-- What R50 says of a state whose lists hold `f`: the queues, the tags, and every slot of the pool once. -/
structure State.Allocated (s : State) (f : ListName → List Nat) : Prop extends s.Queues f where
  tag : ∀ l, ∀ u ∈ f l, s.tagOf u = some (ListName.tag l)
  perm : (f .asg ++ f .rel).Perm (List.range s.cfg.n)
  length : s.slots.length = s.cfg.n

theorem State.lists_iff_allocated (s : State) (f : ListName → List Nat) : s.Lists (f .asg) (f .rel) ↔ s.Allocated f := by
  rw [State.Lists, State.asg_eq_list, State.rel_eq_list, State.hold_iff_queue, State.hold_iff_queue]
  constructor
  · rintro ⟨⟨hA, htagA⟩, ⟨hR, htagR⟩, hperm, hlen⟩
    obtain ⟨hndA, hndR, hdis⟩ := List.nodup_append'.mp (hperm.nodup_iff.mpr List.nodup_range)
    refine ⟨⟨?_, ?_, ?_⟩, ?_, hperm, hlen⟩
    · rintro (_ | _)
      exacts [hA, hR]
    · rintro (_ | _)
      exacts [hndA, hndR]
    · rintro (_ | _) (_ | _) hlm
      exacts [absurd rfl hlm, hdis, hdis.symm, absurd rfl hlm]
    · rintro (_ | _)
      exacts [htagA, htagR]
  · intro h
    exact ⟨⟨h.queue .asg, h.tag .asg⟩, ⟨h.queue .rel, h.tag .rel⟩, h.perm, h.length⟩

/-- The contents of the two lists as one function of the list's name. -/
def contents (A R : List Nat) : ListName → List Nat
  | .asg => A
  | .rel => R

theorem State.Lists.allocated {s : State} {A R : List Nat} (h : s.Lists A R) : s.Allocated (contents A R) :=
  (s.lists_iff_allocated (contents A R)).mp h

theorem State.allocInv_iff (s : State) : s.AllocInv ↔ 0 < s.cfg.n ∧ ∃ f, s.Allocated f := by
  refine and_congr_right fun _ => ⟨?_, ?_⟩
  · rintro ⟨A, R, h⟩
    exact ⟨_, h.allocated⟩
  · rintro ⟨f, h⟩
    exact ⟨_, _, (s.lists_iff_allocated f).mpr h⟩

/-- The allocation of the pool stands while the registers of the lists, the number of slots, and the links and tag of each
slot do. -/
theorem State.Allocated.congr {s t : State} {f : ListName → List Nat} (h : s.Allocated f) (hcfg : t.cfg = s.cfg)
    (hlist : ∀ l, t.list l = s.list l) (hlen : t.slots.length = s.slots.length) (hlinks : ∀ u, t.links u = s.links u)
    (htag : ∀ u, t.tagOf u = s.tagOf u) : t.Allocated f where
  toQueues := h.toQueues.congr hlist hlinks
  tag l u hu := (htag u).trans (h.tag l u hu)
  perm := hcfg ▸ h.perm
  length := by rw [hlen, hcfg, h.length]

/-- The slots of the lists are those of the pool. -/
theorem State.Allocated.exists_mem_iff {s : State} {f : ListName → List Nat} (h : s.Allocated f) (v : Nat) :
    (∃ l, v ∈ f l) ↔ v < s.slots.length := by
  have hmem : v ∈ f .asg ++ f .rel ↔ v < s.slots.length := by rw [h.perm.mem_iff, List.mem_range, h.length]
  rw [← hmem, List.mem_append]
  constructor
  · rintro ⟨_ | _, hv⟩
    exacts [.inl hv, .inr hv]
  · rintro (hv | hv)
    exacts [⟨_, hv⟩, ⟨_, hv⟩]

/-- A slot of the pool is on the list its tag says. -/
theorem State.Allocated.mem_of_tag {s : State} {f : ListName → List Nat} {l : ListName} {v : Nat} (h : s.Allocated f)
    (hv : s.tagOf v = some (ListName.tag l)) : v ∈ f l := by
  obtain ⟨x, hx, -⟩ := Option.map_eq_some_iff.mp hv
  obtain ⟨m, hm⟩ := (h.exists_mem_iff v).mpr (List.getElem?_eq_some_iff.mp hx).1
  have hml : m = l := ListName.tag_injective (Option.some.inj ((h.tag m v hm).symm.trans hv))
  exact hml ▸ hm

/-- The contents of the lists after slot `v` has left its list and joined the end of list `m` (R160, R161). -/
def moved (f : ListName → List Nat) (m : ListName) (v : Nat) : ListName → List Nat :=
  fun k => if k = m then (f k).erase v ++ [v] else (f k).erase v

/-- Moving a slot keeps every slot in the lists once. -/
theorem State.Queues.perm_moved {s : State} {f : ListName → List Nat} {l : ListName} {v : Nat} (h : s.Queues f)
    (hv : v ∈ f l) (m : ListName) : (moved f m v .asg ++ moved f m v .rel).Perm (f .asg ++ f .rel) := by
  have herase : ((f .asg).erase v ++ (f .rel).erase v) = (f .asg ++ f .rel).erase v := by
    rw [List.erase_append]
    split
    next hA => rw [List.erase_of_not_mem (h.disjoint .asg .rel (by decide) hA)]
    next hA => rw [List.erase_of_not_mem hA]
  have hmem : v ∈ f .asg ++ f .rel := by cases l <;> simp [hv]
  refine List.Perm.trans ?_ (herase ▸ (List.perm_cons_erase hmem).symm)
  cases m
  · simp [moved]
  · simp [moved, ← List.append_assoc]

/-- A command that unlinks a slot, appends it to list `m` and leaves it with the tag of that list keeps the pool allocated;
`t` is the state it leaves. -/
theorem State.Allocated.move {s t : State} {f : ListName → List Nat} {l m : ListName} {v : Nat} (h : s.Allocated f)
    (hv : v ∈ f l) (hcfg : t.cfg = s.cfg) (hlist : ∀ k, t.list k = ((s.unlink l v).append m v).list k)
    (hlen : t.slots.length = s.slots.length) (hlinks : ∀ u, t.links u = ((s.unlink l v).append m v).links u)
    (htag : ∀ u, t.tagOf u = if u = v then (s.tagOf u).map fun _ => ListName.tag m else s.tagOf u) :
    t.Allocated (moved f m v) where
  toQueues := (h.toQueues.move hv ((h.exists_mem_iff v).mp ⟨l, hv⟩) m).congr hlist hlinks
  tag k u hu := by
    rw [htag]
    split
    next huv =>
      subst huv
      have hkm : k = m := by
        by_contra hkm
        exact (h.nodup k).not_mem_erase (by simpa [moved, hkm] using hu)
      simp [h.tag l u hv, hkm]
    next huv =>
      refine h.tag k u (List.mem_of_mem_erase (a := u) (b := v) ?_)
      by_cases hkm : k = m <;> simpa [moved, hkm, huv] using hu
  perm := hcfg ▸ (h.perm_moved hv m).trans h.perm
  length := by rw [hlen, hcfg, h.length]

/-- A struck slot becomes the youngest assigned one, wherever it was (R164). -/
theorem State.Allocated.strike {s : State} {f : ListName → List Nat} {l : ListName} {v : Nat} (h : s.Allocated f)
    (hv : v ∈ f l) (pitch vel : Seven) : (s.strike l v pitch vel).Allocated (moved f .asg v) :=
  h.move hv (s.strike_cfg ..) (s.list_strike l v pitch vel) (s.length_strike ..) (s.links_strike l v pitch vel)
    (s.tagOf_strike l v pitch vel)

/-- A released slot becomes the youngest released one (R166). -/
theorem State.Allocated.release {s : State} {f : ListName → List Nat} {v : Nat} (h : s.Allocated f) (hv : v ∈ f .asg) :
    (s.release v).Allocated (moved f .rel v) :=
  h.move hv (s.release_cfg v) (s.list_release v) (s.length_release v) (s.links_release v) (s.tagOf_release v)

/-- The slot NOTE_ON takes is the oldest of the list it is taken from (R164). -/
theorem State.Allocated.victim_eq {s : State} {f : ListName → List Nat} (h : s.Allocated f) :
    s.victim = (f s.victimList).head? := by
  unfold State.victim State.victimList
  split
  · exact (h.queue .rel).head
  · exact (h.queue .asg).head

theorem State.Allocated.mem_of_victim {s : State} {f : ListName → List Nat} {v : Nat} (h : s.Allocated f)
    (hv : s.victim = some v) : v ∈ f s.victimList :=
  List.mem_of_head? (h.victim_eq ▸ hv)

theorem State.Allocated.mem_of_firstMatch {s : State} {f : ListName → List Nat} {pitch : Seven} {v : Nat}
    (h : s.Allocated f) (hv : s.firstMatch pitch = some v) : v ∈ f .asg := by
  obtain ⟨⟨x, hx, htag, -⟩, -⟩ := State.firstMatch_spec hv
  exact h.mem_of_tag (by simp [State.tagOf, hx, htag, ListName.tag])

/-! ## The allocation invariant (R50) -/

/-- The links RESET leaves run through the pool in index order (R50). -/
theorem State.links_resetOf {cfg : Config} {v : Nat} (hv : v < cfg.n) :
    (State.resetOf cfg).links v = some (if v = 0 then none else some (v - 1), if v + 1 < cfg.n then some (v + 1) else none) := by
  simp [State.links, State.resetOf, resetSlots, hv, resetSlot, Slot.setPitch]

/-- The neighbours of a number in `List.range`. -/
theorem neighbours_of_range_cut {n v : Nat} {as bs : List Nat} (h : List.range n = as ++ v :: bs) :
    v < n ∧ as.getLast? = (if v = 0 then none else some (v - 1)) ∧ bs.head? = if v + 1 < n then some (v + 1) else none := by
  have hat : ∀ i : Nat, (List.range n)[i]? = (as ++ v :: bs)[i]? := fun i => by rw [h]
  obtain ⟨hlt, rfl⟩ : as.length < n ∧ as.length = v := by
    simpa [List.getElem?_eq_some_iff] using hat as.length
  refine ⟨hlt, ?_, ?_⟩
  · cases as using List.reverseRecOn with
    | nil => rfl
    | append_singleton as a _ =>
      have hlast := hat as.length
      rw [List.getElem?_range (by simp at hlt; omega)] at hlast
      simpa using hlast.symm
  · have hnext := hat (as.length + 1)
    rw [List.getElem?_append_right (by omega), show as.length + 1 - as.length = 1 by omega] at hnext
    rw [List.head?_eq_getElem?, ← List.getElem?_cons_succ (a := as.length), ← hnext]
    split
    next hlt' => rw [List.getElem?_range hlt']
    next hge => simpa using hge

/-- The lists RESET leaves: none assigned, and every slot released, 0 the oldest (R50). -/
theorem State.lists_resetOf {cfg : Config} (hn : 0 < cfg.n) : (State.resetOf cfg).Lists [] (List.range cfg.n) := by
  refine ⟨⟨rfl, rfl, rfl, trivial⟩, (State.hold_iff_queue _ .rel _ _).mpr ⟨⟨?_, ?_, ?_, fun as v bs hcut => ?_⟩, fun v hv => ?_⟩,
    .refl _, by simp [State.resetOf, resetSlots]⟩
  · simp [List.head?_range, hn.ne', State.list, State.resetOf, resetRel]
  · simp [List.getLast?_range, hn.ne', State.list, State.resetOf, resetRel]
  · simp [State.list, State.resetOf, resetRel]
  · obtain ⟨hv, has, hbs⟩ := neighbours_of_range_cut hcut
    rw [State.links_resetOf hv, has, hbs]
  · have hv' : v < cfg.n := List.mem_range.mp hv
    simp [State.tagOf, State.resetOf, resetSlots, hv', resetSlot, Slot.setPitch]

/-- Settles O17. -/
theorem resetStateMeetsTheAllocationInvariant : Obligations.ResetStateMeetsTheAllocationInvariant :=
  ⟨by decide, _, _, State.lists_resetOf (by decide)⟩

/-- What leaves the configuration, the registers of the lists, and the links and tags of the slots keeps the invariant. -/
theorem State.AllocInv.congr {s t : State} (h : s.AllocInv) (hcfg : t.cfg = s.cfg) (hlist : ∀ l, t.list l = s.list l)
    (hslot : ∀ u, t.links u = s.links u ∧ t.tagOf u = s.tagOf u) (hlen : t.slots.length = s.slots.length) : t.AllocInv := by
  obtain ⟨hn, f, hf⟩ := (State.allocInv_iff s).mp h
  exact (State.allocInv_iff t).mpr ⟨hcfg ▸ hn, f, hf.congr hcfg hlist hlen (fun u => (hslot u).1) fun u => (hslot u).2⟩

/-- A TICK keeps the links and the tag of every slot (R168). -/
theorem State.links_tick (s : State) (u : Nat) :
    s.advanceRamps.sample.links u = s.links u ∧ s.advanceRamps.sample.tagOf u = s.tagOf u := by
  obtain ⟨l, r, hu⟩ := getElem?_voicePass s.cfg s.advanceRamps.params s.coefs s.slots F32.zero F32.zero u
  have hslots : s.advanceRamps.sample.slots[u]? = _ := hu
  simp only [State.links, State.tagOf, hslots, Option.map_map]
  exact ⟨rfl, rfl⟩

theorem State.AllocInv.of_effect {s t : State} (h : s.AllocInv) (heff : s.Effect t) : t.AllocInv := by
  obtain ⟨hn, f, hf⟩ := (State.allocInv_iff s).mp h
  cases heff with
  | strike v pitch vel hv =>
    exact (State.allocInv_iff _).mpr ⟨by rwa [State.strike_cfg], _, hf.strike (hf.mem_of_victim hv) pitch vel⟩
  | release v _ hv => exact (State.allocInv_iff _).mpr ⟨by rwa [State.release_cfg], _, hf.release (hf.mem_of_firstMatch hv)⟩
  | reset => exact ⟨hn, _, _, State.lists_resetOf hn⟩
  | tick => exact h.congr rfl (fun l => by cases l <;> rfl) s.links_tick (length_voicePass ..)
  | retune P _ =>
    refine h.congr rfl (fun l => by cases l <;> rfl) (fun u => ?_) (by simp)
    simp only [State.links, State.tagOf, State.retuneCombs_slots, List.getElem?_map, Option.map_map]
    exact ⟨rfl, rfl⟩
  | unchanged | startRamp _ _ | startEchoRamps _ _ | unramped _ _ _ _ => exact h

/-- Settles O18, by the effects of an instruction. -/
theorem everyStepKeepsTheAllocationInvariant : Obligations.EveryStepKeepsTheAllocationInvariant :=
  fun _ _ hs => step_keeps (fun _ _ h => h) (fun _ _ => State.AllocInv.of_effect) hs

/-- Settles O19: the lists are as long as their counts, and together as long as the pool. -/
theorem assignedPlusReleasedIsN : Obligations.AssignedPlusReleasedIsN := by
  rintro s ⟨-, A, R, ⟨-, -, hA, -⟩, ⟨-, -, hR, -⟩, hperm, -⟩
  simpa [hA, hR] using hperm.length_eq

end Sys2Proof.Machine

/-!
PROOF. The values RESET leaves in the parameter, coefficient and bus registers (10_state.md R51 to R59, 70_reset_and_hazards.md
R490, R492). Each coefficient set and delay is first given as its recipe on the reset parameters, for every configuration, and
the bit patterns at 48 kHz are that recipe evaluated. No recipe reads the number of slots, so one evaluation serves every N.
-/

namespace Sys2Proof.Machine

/-- The constants of R19, R44 and R53 that every configuration shares: the frequencies of pitches 0 and 60, and the echo times
of the two channels, which are the reset time itself at no spread. -/
theorem reset_constants :
    hp8Freq = lit 0x4102D013 ∧ pitchFreq 60 = lit 0x4382D013
      ∧ resetParams.echoTime.mul (F32.one.add (F32.half.mul resetParams.echoStereo)) = lit 0x3EC00000
      ∧ resetParams.echoTime.mul (F32.one.sub (F32.half.mul resetParams.echoStereo)) = lit 0x3EC00000 := by
  decide +kernel

/-- The coefficient sets that the reset parameters give (R55, R490). -/
theorem coefsOf_resetParams (cfg : Config) : coefsOf cfg resetParams =
    { chirp := ⟨opCoeffs cfg .lp resetCutoff F32.zero, opCoeffs cfg .lp resetCutoff F32.zero⟩
      combAp := bqCoeffs cfg .ap resetCutoff F32.zero F32.zero
      mixHp := opCoeffs cfg .hp (lit 0x4102D013) F32.zero
      cab :=
        { hp := bqCoeffs cfg .hp (lit 0x41A00000) F32.zero F32.zero
          t1 := tiltCoeffs cfg (lit 0x44960000) F32.zero F32.one
          t2 := tiltCoeffs cfg (lit 0x44960000) F32.zero.neg F32.one
          lp1 := bqCoeffs cfg .lp resetCutoff F32.zero F32.zero
          lp2 := bqCoeffs cfg .lp (resetCutoff.mul (lit 0x3FAA9FBE)) F32.zero F32.zero }
      cabH30 := opCoeffs cfg .hp (lit 0x41F00000) F32.zero
      echoLp := opCoeffs cfg .lp resetCutoff F32.zero
      echoHp := opCoeffs cfg .hp (lit 0x42480000) F32.zero
      uf := bqCoeffs cfg .lp resetCutoff F32.zero F32.zero } := by
  obtain ⟨hhp8, -⟩ := reset_constants
  rw [← hhp8]
  rfl

/-- Both smoothed delays start at the target of the reset time (R58). -/
theorem echo_d_resetOf (cfg : Config) (c : Channel) :
    ((State.resetOf cfg).bus.echo.get c).d = echoTarget cfg (lit 0x3EC00000) := by
  obtain ⟨-, -, hl, hr⟩ := reset_constants
  cases c with
  | l => exact congrArg (echoTarget cfg) hl
  | r => exact congrArg (echoTarget cfg) hr

/-- What `set_pitch(v, 60)` leaves in every slot at RESET (R163, R490). -/
theorem resetSlot_pitch (cfg : Config) (v : Nat) :
    (resetSlot cfg v).combD = combDelay cfg F32.one 60
      ∧ ∀ m : Module, ((resetSlot cfg v).osc.get m).f0 = pitchFreq 60
        ∧ ((resetSlot cfg v).osc.get m).inc =
          ((pitchFreq 60).add ((F32.zero.mul F32.zero).mul (pitchFreq 60))).div cfg.fs := by
  refine ⟨rfl, fun m => ?_⟩
  cases m <;> exact ⟨rfl, rfl⟩

/-! ## At 48 kHz -/

/-- The coefficient sets after RESET at 48 kHz (R492, R328). -/
def resetCoefs48k : Coefs :=
  { chirp := ⟨⟨lit 0x3F49231D, lit 0x3F49231D, lit 0x3F124638⟩, ⟨lit 0x3F49231D, lit 0x3F49231D, lit 0x3F124638⟩⟩
    combAp := ⟨lit 0x3EA7108D, lit 0x3F92505A, lit 0x3F800000, lit 0x3F92505A, lit 0x3EA7108D⟩
    mixHp := ⟨lit 0x3F7FDCF3, lit 0xBF7FDCF3, lit 0xBF7FB9E6⟩
    cab :=
      { hp := ⟨lit 0x3F7F54C5, lit 0xBFFF54C5, lit 0x3F7F54C5, lit 0xBFFF54A8, lit 0x3F7EA9C0⟩
        t1 := ⟨lit 0x3F800000, lit 0xBFE3B0A6, lit 0x3F4D0114, lit 0xBFE3B0A6, lit 0x3F4D0114⟩
        t2 := ⟨lit 0x3F800000, lit 0xBFE3B0A6, lit 0x3F4D0114, lit 0xBFE3B0A6, lit 0x3F4D0114⟩
        lp1 := ⟨lit 0x3F1E0A3F, lit 0x3F9E0A3F, lit 0x3F1E0A3F, lit 0x3F92505A, lit 0x3EA7108D⟩
        lp2 := ⟨lit 0x3F566F5F, lit 0x3FD66F5F, lit 0x3F566F5F, lit 0x3FD49C03, lit 0x3F308577⟩ }
    cabH30 := ⟨lit 0x3F7F7F93, lit 0xBF7F7F93, lit 0xBF7EFF25⟩
    echoLp := ⟨lit 0x3F49231D, lit 0x3F49231D, lit 0x3F124638⟩
    echoHp := ⟨lit 0x3F7F2A3B, lit 0xBF7F2A3B, lit 0xBF7E5476⟩
    uf := ⟨lit 0x3F1E0A3F, lit 0x3F9E0A3F, lit 0x3F1E0A3F, lit 0x3F92505A, lit 0x3EA7108D⟩ }

/-- The recipes of the reset values evaluated at 48 kHz (R492, R328). No recipe reads the number of slots. -/
theorem reset_recipes_48k (n : Nat) :
    coefsOf (Config.standard n 48000) resetParams = resetCoefs48k
      ∧ echoTarget (Config.standard n 48000) (lit 0x3EC00000) = lit 0x468CA000
      ∧ combDelay (Config.standard n 48000) F32.one 60 = lit 0x433777E3
      ∧ ((pitchFreq 60).add ((F32.zero.mul F32.zero).mul (pitchFreq 60))).div (Config.standard n 48000).fs
        = lit 0x3BB29A62 := by
  have hcoefs : coefsOf (Config.standard n 48000) = coefsOf (Config.standard 1 48000) := rfl
  have htarget : echoTarget (Config.standard n 48000) = echoTarget (Config.standard 1 48000) := rfl
  have hdelay : combDelay (Config.standard n 48000) = combDelay (Config.standard 1 48000) := rfl
  have hfs : (Config.standard n 48000).fs = (Config.standard 1 48000).fs := rfl
  rw [hcoefs, htarget, hdelay, hfs]
  decide +kernel

/-- Settles O16. -/
theorem resetRegistersAreConvergedAtTheirResetValues : Obligations.ResetRegistersAreConvergedAtTheirResetValues := by
  refine ⟨fun _ r => ramp_resetParams r, fun _ => rfl, coefsOf_resetParams, fun cfg c => ?_, fun n => ?_⟩
  · have hd := echo_d_resetOf cfg c
    cases c <;> exact ⟨rfl, rfl, rfl, fun _ => rfl, hd, rfl, rfl, rfl, rfl⟩
  · obtain ⟨-, hpitch, -⟩ := reset_constants
    obtain ⟨hcoefs, htarget, hdelay, hinc⟩ := reset_recipes_48k n
    refine ⟨hcoefs, fun c => (echo_d_resetOf _ c).trans htarget, fun x hx => ?_⟩
    obtain ⟨v, -, rfl⟩ := List.mem_map.mp hx
    obtain ⟨hcomb, hosc⟩ := resetSlot_pitch (Config.standard n 48000) v
    refine ⟨hcomb.trans hdelay, fun m => ?_⟩
    obtain ⟨hf0, hoscInc⟩ := hosc m
    exact ⟨hf0.trans hpitch, hoscInc.trans hinc⟩

end Sys2Proof.Machine

/-!
PROOF. What a step does with the front word of the port (20_memory.md R111, R119): it takes the word, runs what it decodes to
or nothing, and always answers a next state.
-/

namespace Sys2Proof.Machine

theorem step_of_port_nil {s : State} (hp : s.port = []) : step s = .next s := by
  rw [step, hp]
  rfl

theorem step_of_decode {s : State} {w : PortWord} {rest : List PortWord} {i : Instr} (hp : s.port = w :: rest)
    (hd : decode s.cfg w = .ok i) : step s = exec i (s.taken rest) := by
  simp only [step, hp, hd]

theorem step_of_decode_error {s : State} {w : PortWord} {rest : List PortWord} {e : DecodeError}
    (hp : s.port = w :: rest) (hd : decode s.cfg w = .error e) : step s = .next (s.taken rest) := by
  simp only [step, hp, hd, ignoreWord]

/-- With a word at the front, a step takes it and runs one instruction or none. -/
theorem step_of_port {s : State} {w : PortWord} {rest : List PortWord} (hp : s.port = w :: rest) :
    step s = .next (s.taken rest) ∨ ∃ i, step s = exec i (s.taken rest) := by
  cases hd : decode s.cfg w with
  | error e => exact .inl (step_of_decode_error hp hd)
  | ok i => exact .inr ⟨i, step_of_decode hp hd⟩

/-- Settles O4: taking a word is total, and so is every instruction. -/
theorem everyStepHasASuccessor : Obligations.EveryStepHasASuccessor := by
  intro s
  cases hp : s.port with
  | nil => exact ⟨s, step_of_port_nil hp⟩
  | cons w rest =>
    obtain hstep | ⟨i, hstep⟩ := step_of_port hp
    · exact ⟨_, hstep⟩
    · obtain ⟨t, ht, -⟩ := exec_effect i (s.taken rest)
      exact ⟨t, hstep.trans ht⟩

/-- No instruction touches the words that wait on the port (R111, R490). -/
theorem State.Effect.port_eq {s t : State} (heff : s.Effect t) : t.port = s.port := by
  cases heff with
  | strike v pitch vel _ => exact s.strike_port ..
  | release v _ _ => exact s.release_port v
  | unchanged | startRamp | startEchoRamps | retune | unramped | tick | reset => rfl

/-- Settles O7: the step takes the front word, and no instruction touches the rest. -/
theorem wordsAreTakenInOrder : Obligations.WordsAreTakenInOrder := by
  intro s t w rest hp h
  obtain hstep | ⟨i, hstep⟩ := step_of_port hp
  · cases hstep.symm.trans h
    rfl
  · obtain ⟨t', ht', heff⟩ := exec_effect i (s.taken rest)
    cases (hstep.trans ht').symm.trans h
    exact heff.port_eq

end Sys2Proof.Machine

/-!
PROOF. The delay lines (20_memory.md R102, R106, R107, 48_echo_delay_comb.md R340, R343): RESET leaves them canonical, every
step keeps them so, and a TICK stores one element in each. `State.Effect` does not fix what the SET of an unramped parameter
makes of the bus, so what an instruction does to the lines is said here for itself (`State.SameLines`, `exec_lines`): only
TICK and RESET write a line.
-/

namespace Sys2Proof.Machine

/-- The two combs of a slot, where it is in the pool (R46). -/
def State.combs (s : State) (u : Nat) : Option (PerModule Comb) := (s.slots[u]?).map Slot.comb

@[simp] theorem State.combs_unlink (s : State) (l : ListName) (v u : Nat) : (s.unlink l v).combs u = s.combs u := by
  cases hx : s.slots[v]? with
  | none => rw [State.unlink_of_none hx]
  | some x =>
    simp only [State.combs, State.getElem?_unlink hx, Option.map_map]
    rfl

@[simp] theorem State.combs_append (s : State) (l : ListName) (v u : Nat) : (s.append l v).combs u = s.combs u := by
  simp only [State.combs, State.getElem?_append, Option.map_map]
  rfl

theorem State.combs_strike (s : State) (l : ListName) (v : Nat) (pitch vel : Seven) (u : Nat) :
    (s.strike l v pitch vel).combs u = s.combs u := by
  rw [← State.combs_unlink s l v, ← State.combs_append (s.unlink l v) .asg v]
  simp only [State.combs, State.getElem?_strike, Option.map_map]
  by_cases h : u = v <;> simp only [h, ↓reduceIte] <;> rfl

theorem State.combs_release (s : State) (v u : Nat) : (s.release v).combs u = s.combs u := by
  rw [← State.combs_unlink s .asg v, ← State.combs_append (s.unlink .asg v) .rel v]
  simp only [State.combs, State.getElem?_release, Option.map_map]
  by_cases h : u = v <;> simp only [h, ↓reduceIte] <;> rfl

theorem State.combs_retuneCombs (s : State) (u : Nat) : s.retuneCombs.combs u = s.combs u := by
  simp only [State.combs, State.retuneCombs_slots, List.getElem?_map, Option.map_map]
  rfl

/-- `t` holds the combs and the echo of `s`, under the same configuration. -/
structure State.SameLines (s t : State) : Prop where
  cfg : t.cfg = s.cfg
  combs : ∀ u, t.combs u = s.combs u
  echo : t.bus.echo = s.bus.echo

theorem State.SameLines.refl (s : State) : s.SameLines s := ⟨rfl, fun _ => rfl, rfl⟩

theorem State.sameLines_keyUp (s : State) (pitch : Seven) : s.SameLines (s.keyUp pitch) := by
  unfold State.keyUp
  split
  next v _ => exact ⟨s.release_cfg v, s.combs_release v, by rw [s.release_bus v]⟩
  next => exact .refl s

/-- No SET writes a delay line (R382). -/
theorem execSetParam_sameLines (k : Param) (v : Seven) (s : State) :
    ∃ t, execSetParam k v s = .next t ∧ s.SameLines t := by
  cases k with
  | combKt => exact ⟨_, rfl, rfl, State.combs_retuneCombs _, rfl⟩
  | ufType =>
    refine ⟨_, rfl, ?_⟩
    split
    · exact .refl s
    · exact ⟨rfl, fun _ => rfl, rfl⟩
  | _ => exact ⟨_, rfl, rfl, fun _ => rfl, rfl⟩

/-- What an instruction does to the delay lines: nothing, unless it is a TICK or a RESET. -/
theorem exec_lines (i : Instr) (s : State) : ∃ t, exec i s = .next t ∧ (s.SameLines t ∨ t = s.advanceRamps.sample
    ∨ t = { State.resetOf s.cfg with port := s.port, out := s.out, nanDraws := s.nanDraws }) := by
  rw [← Instr.instr_shape i]
  cases i.shape with
  | noteOn pitch vel =>
    cases hv : s.victim with
    | none => exact ⟨s, by simp [InstrShape.instr, exec, execNoteOn, hv], .inl (.refl s)⟩
    | some v =>
      exact ⟨s.strike s.victimList v pitch vel, by simp [InstrShape.instr, exec, execNoteOn, hv],
        .inl ⟨s.strike_cfg .., s.combs_strike _ v pitch vel, by rw [s.strike_bus]⟩⟩
  | noteOnV0 pitch | noteOff pitch _ => exact ⟨_, rfl, .inl (s.sameLines_keyUp pitch)⟩
  | set k v =>
    obtain ⟨t, ht, hlines⟩ := execSetParam_sameLines k v s
    exact ⟨t, (exec_setInstr k v s).trans ht, .inl hlines⟩
  | ctrl id v =>
    cases hk : s.cfg.paramOf id with
    | none => exact ⟨s, by simp [InstrShape.instr, exec, execCtrl, hk], .inl (.refl s)⟩
    | some k =>
      obtain ⟨t, ht, hlines⟩ := execSetParam_sameLines k v s
      exact ⟨t, by simpa [InstrShape.instr, exec, execCtrl, hk] using ht, .inl hlines⟩
  | tick _ => exact ⟨_, rfl, .inr (.inl rfl)⟩
  | reset _ => exact ⟨_, rfl, .inr (.inr rfl)⟩
  | reserved _ => exact ⟨s, rfl, .inl (.refl s)⟩

theorem State.LinesInv.congr {s t : State} (h : s.LinesInv) (hlines : s.SameLines t) : t.LinesInv := by
  obtain ⟨hechoBuf, hcombBuf, hcombs, hecho⟩ := h
  rw [← hlines.cfg] at hechoBuf hcombBuf hcombs hecho
  refine ⟨hechoBuf, hcombBuf, fun y hy m => ?_, hlines.echo ▸ hecho⟩
  obtain ⟨u, hu⟩ := List.mem_iff_getElem?.mp hy
  have hcomb : (s.slots[u]?).map Slot.comb = some y.comb := by
    rw [← State.combs, ← hlines.combs u, State.combs, hu]
    rfl
  obtain ⟨x, hx, hxy⟩ := Option.map_eq_some_iff.mp hcomb
  exact hxy ▸ hcombs x (List.mem_of_getElem? hx) m

/-- The line invariant holds after every instruction that starts with it: TICK is one `DL_write` per line, RESET clears
every line. -/
theorem State.LinesInv.of_exec {s t : State} {i : Instr} (h : s.LinesInv) (hi : exec i s = .next t) : t.LinesInv := by
  obtain ⟨t', ht', heff⟩ := exec_lines i s
  cases ht'.symm.trans hi
  obtain hlines | rfl | rfl := heff
  · exact h.congr hlines
  · exact State.linesInv_tick h
  · obtain ⟨hechoBuf, hcombBuf, -⟩ := h
    exact State.linesInv_resetOf s.cfg hechoBuf hcombBuf

/-- Settles O44. -/
theorem resetLinesAreCanonical : Obligations.ResetLinesAreCanonical := State.linesInv_reset

/-- Settles O45, by what an instruction can do to the delay lines. -/
theorem everyStepKeepsLinesCanonical : Obligations.EveryStepKeepsLinesCanonical := by
  intro s t hs h
  cases hp : s.port with
  | nil =>
    cases (step_of_port_nil hp).symm.trans h
    exact hs
  | cons w rest =>
    have htaken : (s.taken rest).LinesInv := hs
    obtain hstep | ⟨i, hstep⟩ := step_of_port hp
    · cases hstep.symm.trans h
      exact htaken
    · exact htaken.of_exec (hstep.symm.trans h)

/-! ## What a TICK writes -/

theorem dlWrite_read_other {size : Nat} {l : Line} (x : F32) {j : Nat} (hj : j ≠ l.w) :
    Memory.read (dlWrite size l x).mem j = Memory.read l.mem j := Memory.read_write_other _ x hj

/-- The value a slot's part of the voice pass stores in the comb line of a module: the module's output and the decayed
all-pass output of the tap (R363). -/
theorem slotTick_line (cfg : Config) (P : Params) (C : Coefs) (v : Slot) (l r : F32) (m : Module) :
    let g := sgTick cfg P C v
    let tap := dlRead cfg.combBuf (v.comb.get m).line v.combD
    ((slotTick cfg P C v l r).1.comb.get m).line = dlWrite cfg.combBuf (v.comb.get m).line
      (((⟨g.1, g.2.1⟩ : PerModule F32).get m).add
        (P.combDecay.cur.mul (bqTick cfg.dnc C.combAp (v.comb.get m).ap tap).1)) := by
  cases m <;> rfl

/-- The value the bus pass stores in an echo line: the cabinet's output and the two channels' fed back histories (R350). -/
theorem busPass_echo_line (cfg : Config) (P : Params) (C : Coefs) (b : Bus) (l r : F32) (c : Channel) :
    let mixed := (mixPostTick cfg P C (b.mixHp.get c) ((⟨l, r⟩ : PerChannel F32).get c)).1
    ((busPass cfg P C b l r).2.2.echo.get c).line = dlWrite cfg.echoBuf (b.echo.get c).line
      (((cabTick cfg P C (b.cab.get c) mixed).1.add ((b.echo.get c).hist.mul P.echoFb.cur)).add
        ((b.echo.get c.other).hist.mul P.echoXfb.cur)) := by
  cases c <;> rfl

/-- Settles O48: each line gets one `DL_write` of the value its unit computes. -/
theorem tickWritesOneElementOfEachLine : Obligations.TickWritesOneElementOfEachLine := by
  refine fun payload s => ⟨s.advanceRamps.sample, rfl, length_voicePass .., fun u x m hx => ?_, fun c => ?_⟩
  · obtain ⟨l, r, hu⟩ := getElem?_voicePass s.cfg s.advanceRamps.params s.coefs s.slots F32.zero F32.zero u
    rw [hx] at hu
    refine ⟨_, hu, ?_⟩
    rw [slotTick_line]
    exact ⟨rfl, fun j hj => dlWrite_read_other _ hj, fun hwf => (dlWrite_spec _ hwf).1⟩
  · have hline := busPass_echo_line s.cfg s.advanceRamps.params s.coefs s.bus
      (voicePass s.cfg s.advanceRamps.params s.coefs s.slots F32.zero F32.zero).2.1
      (voicePass s.cfg s.advanceRamps.params s.coefs s.slots F32.zero F32.zero).2.2 c
    have hbus : (s.advanceRamps.sample.bus.echo.get c).line = _ := hline
    rw [hbus]
    exact ⟨rfl, fun j hj => dlWrite_read_other _ hj, fun hwf => (dlWrite_spec _ hwf).1⟩

end Sys2Proof.Machine

/-!
PROOF. The serialised bytes and the returned patterns (20_memory.md R104, R105, 60_exceptions.md R463, R475): a port word reads
back from its bytes, and a datum from its pattern.
-/

namespace Sys2Proof

/-- The last byte of a port word has only bits 25 and 24 in it (R104, R130). -/
theorem lastByte_eq (w : PortWord) : w.extractLsb' 24 8 = (0#6 ++ w.extractLsb' 24 2 : BitVec 8) := by
  apply BitVec.eq_of_toNat_eq
  have := w.isLt
  simp only [BitVec.toNat_append, BitVec.extractLsb'_toNat, Nat.shiftRight_eq_div_pow, BitVec.toNat_ofNat, Nat.zero_mod,
    Nat.zero_shiftLeft, Nat.zero_or]
  omega

/-- A word cut into its operation class and the three bytes below is put together again (R104). -/
theorem bytes_append (w : PortWord) :
    (w.extractLsb' 24 2 ++ w.extractLsb' 16 8 ++ w.extractLsb' 8 8 ++ w.extractLsb' 0 8 : BitVec 26) = w := by
  ext i hi
  simp only [BitVec.getElem_append, BitVec.getElem_extractLsb']
  split_ifs <;> rw [← BitVec.getLsbD_eq_getElem] <;> congr 1 <;> omega

theorem deserialise_serialise (w : PortWord) (rest : List Byte) :
    deserialise (serialise w ++ rest) = .ok (w, rest) := by
  have hhigh : (w.extractLsb' 24 8).extractLsb' 2 6 = 0 := by
    apply BitVec.eq_of_toNat_eq
    have := w.isLt
    simp only [BitVec.extractLsb'_toNat, Nat.shiftRight_eq_div_pow, BitVec.ofNat_eq_ofNat, BitVec.toNat_ofNat]
    omega
  have hlow : (w.extractLsb' 24 8).extractLsb' 0 2 = w.extractLsb' 24 2 := by
    apply BitVec.eq_of_toNat_eq
    simp only [BitVec.extractLsb'_toNat, Nat.shiftRight_eq_div_pow]
    omega
  simp only [serialise, List.cons_append, List.nil_append, deserialise, hhigh, hlow, if_true, bytes_append]

/-- Settles O10. -/
theorem bytesRoundTrip : Obligations.BytesRoundTrip := by
  refine ⟨deserialise_serialise, fun w => ?_, fun s l r hout => ?_, fun s hout => ?_⟩
  · rw [serialise, lastByte_eq]
  · rw [Machine.State.outBytes, hout]
    rfl
  · rw [Machine.State.outBytes, hout]
    rfl

/-! ## The pattern of a datum -/

theorem F32.ofBits_of_finite {b : BitVec 32} (h : b.toNat % 2147483648 < 0x7F800000) :
    F32.ofBits b = .fin (decide (2147483648 ≤ b.toNat)) ⟨b.toNat % 2147483648, h⟩ := dif_pos h

theorem F32.ofBits_of_nan {b : BitVec 32} (h : 0x7F800000 < b.toNat % 2147483648) : F32.ofBits b = .nan := by
  rw [F32.ofBits]
  simp only [dif_neg h.le.not_gt, if_neg h.ne']

/-- A free NaN pattern, its sign bit aside, is above the infinity's: its fraction is not zero (R475). -/
theorem Config.nanPattern_toNat_gt (n : Nat) : 0x7F800000 < (Config.nanPattern n).toNat % 2147483648 := by
  have hfraction : 0 < (if Config.nanFraction n = 0 then 1#23 else Config.nanFraction n).toNat := by
    split
    next => decide
    next hne => exact Nat.pos_of_ne_zero fun h0 => hne (BitVec.eq_of_toNat_eq h0)
  unfold Config.nanPattern
  generalize (if Config.nanFraction n = 0 then 1#23 else Config.nanFraction n) = fraction at *
  have hlt := fraction.isLt
  rw [BitVec.toNat_append, BitVec.toNat_append, ← Nat.shiftLeft_add_eq_or_of_lt hlt,
    ← Nat.shiftLeft_add_eq_or_of_lt (BitVec.isLt _)]
  simp only [Nat.shiftLeft_eq, BitVec.toNat_ofNat]
  omega

theorem F32.toNat_toBits_fin (nanBits : BitVec 32) (neg : Bool) (mag : Fin 0x7F800000) :
    (F32.toBits nanBits (.fin neg mag)).toNat = neg.toNat * 2147483648 + mag.val := by
  have hmag : mag.val < 2 ^ 31 := mag.isLt.trans (by decide)
  have hmod : mag.val % 2 ^ 32 = mag.val := Nat.mod_eq_of_lt (by omega)
  rw [F32.toBits, BitVec.toNat_or, BitVec.toNat_ofNat, hmod]
  cases neg with
  | false => simp
  | true => exact (Nat.two_pow_add_eq_or_of_lt hmag 1).symm

theorem F32.ofBits_toBits_inf (nanBits : BitVec 32) (neg : Bool) :
    F32.ofBits (F32.toBits nanBits (.inf neg)) = .inf neg := by
  have hpattern : F32.toBits nanBits (.inf neg) = if neg then 0xFF800000#32 else 0x7F800000#32 := by
    cases neg <;> rfl
  rw [hpattern]
  cases neg <;> decide

/-- Settles O58, by the three kinds of datum. -/
theorem outputPatternReadsBackAsTheValue : Obligations.OutputPatternReadsBackAsTheValue := by
  intro n x
  cases x with
  | nan => exact F32.ofBits_of_nan (Config.nanPattern_toNat_gt n)
  | inf neg => exact F32.ofBits_toBits_inf _ neg
  | fin neg mag =>
    have hbits := F32.toNat_toBits_fin (Config.nanPattern n) neg mag
    have hmag := mag.isLt
    have hlow : (F32.toBits (Config.nanPattern n) (.fin neg mag)).toNat % 2147483648 = mag.val := by omega
    have hsign : decide (2147483648 ≤ (F32.toBits (Config.nanPattern n) (.fin neg mag)).toNat) = neg := by
      cases neg with
      | false => exact decide_eq_false (by rw [hbits, Bool.toNat_false]; omega)
      | true => exact decide_eq_true (by rw [hbits, Bool.toNat_true]; omega)
    rw [F32.ofBits_of_finite (by omega)]
    simp only [hlow, hsign]

end Sys2Proof

/-!
PROOF. FRAMES and PORT_ATTACH (20_memory.md R103, R117). Giving them other values (`State.withUnread`) commutes with every part
of a step: the functions of the configuration do not change, and so the operations on the state move past it one by one.
-/

namespace Sys2Proof

/-- The configuration with other values of the two parameters that no rule of the block reads (R103, R117). -/
def Config.withUnread (cfg : Config) (f : Nat) (a : PortAttach) : Config := { cfg with frames := f, portAttach := a }

section
variable (cfg : Config) (f : Nat) (a : PortAttach)

theorem decode_withUnread (w : PortWord) : decode (cfg.withUnread f a) w = decode cfg w := rfl

theorem slotTick_withUnread : slotTick (cfg.withUnread f a) = slotTick cfg := rfl

theorem voicePass_withUnread (P : Params) (C : Coefs) (vs : List Slot) (l r : F32) :
    voicePass (cfg.withUnread f a) P C vs l r = voicePass cfg P C vs l r := by
  induction vs generalizing l r with
  | nil => rfl
  | cons v rest ih => simp only [voicePass, slotTick_withUnread, ih]

theorem busPass_withUnread : busPass (cfg.withUnread f a) = busPass cfg := rfl

end

namespace Machine

/-- The state with other values of the two parameters that no rule of the block reads (R103, R117). -/
def State.withUnread (s : State) (f : Nat) (a : PortAttach) : State := { s with cfg := s.cfg.withUnread f a }

section
variable (s : State) (f : Nat) (a : PortAttach)

theorem State.sample_withUnread : (s.withUnread f a).sample = s.sample.withUnread f a := by
  simp only [State.sample, State.withUnread, voicePass_withUnread, busPass_withUnread]
  rfl

theorem State.setList_withUnread (x : ListRegs) (l : ListName) :
    (s.withUnread f a).setList x l = (s.setList x l).withUnread f a := by
  cases l <;> rfl

theorem State.list_withUnread (l : ListName) : (s.withUnread f a).list l = s.list l := by
  cases l <;> rfl

theorem State.modifySlot_withUnread (v : Nat) (g : Slot → Slot) :
    (s.withUnread f a).modifySlot v g = (s.modifySlot v g).withUnread f a := rfl

theorem State.setPitch_withUnread (v : Nat) (p : Seven) :
    (s.withUnread f a).setPitch v p = (s.setPitch v p).withUnread f a := rfl

theorem State.linkNext_withUnread (l : ListName) (p n : Option Nat) :
    (s.withUnread f a).linkNext l p n = (s.linkNext l p n).withUnread f a := by
  cases p with
  | none => simp only [State.linkNext, State.list_withUnread, State.setList_withUnread]
  | some p => rfl

theorem State.linkPrev_withUnread (l : ListName) (n p : Option Nat) :
    (s.withUnread f a).linkPrev l n p = (s.linkPrev l n p).withUnread f a := by
  cases n with
  | none => simp only [State.linkPrev, State.list_withUnread, State.setList_withUnread]
  | some n => rfl

theorem State.unlink_withUnread (l : ListName) (v : Nat) :
    (s.withUnread f a).unlink l v = (s.unlink l v).withUnread f a := by
  have hslots : (s.withUnread f a).slots = s.slots := rfl
  simp only [State.unlink, hslots]
  split
  next => rfl
  next =>
    simp only [State.linkNext_withUnread, State.linkPrev_withUnread, State.list_withUnread, State.setList_withUnread,
      State.modifySlot_withUnread]

theorem State.append_withUnread (l : ListName) (v : Nat) :
    (s.withUnread f a).append l v = (s.append l v).withUnread f a := by
  simp only [State.append, State.list_withUnread, State.modifySlot_withUnread, State.linkNext_withUnread,
    State.setList_withUnread]

theorem State.strike_withUnread (l : ListName) (v : Nat) (pitch vel : Seven) :
    (s.withUnread f a).strike l v pitch vel = (s.strike l v pitch vel).withUnread f a := by
  simp only [State.strike, State.unlink_withUnread, State.append_withUnread, State.modifySlot_withUnread,
    State.setPitch_withUnread]

theorem State.release_withUnread (v : Nat) : (s.withUnread f a).release v = (s.release v).withUnread f a := by
  simp only [State.release, State.unlink_withUnread, State.append_withUnread, State.modifySlot_withUnread]

theorem State.keyUp_withUnread (pitch : Seven) : (s.withUnread f a).keyUp pitch = (s.keyUp pitch).withUnread f a := by
  have hmatch : (s.withUnread f a).firstMatch pitch = s.firstMatch pitch := rfl
  simp only [State.keyUp, hmatch]
  split
  next v _ => exact s.release_withUnread f a v
  next => rfl

theorem execSetParam_withUnread (k : Param) (v : Seven) :
    execSetParam k v (s.withUnread f a) = thenStep (execSetParam k v s) fun t => .next (t.withUnread f a) := by
  cases k with
  | ufType => exact congrArg Host.Outcome.next (apply_ite (State.withUnread · f a) (v = 0) s s.advanceUfType).symm
  | _ => rfl

theorem execNoteOn_withUnread (pitch vel : Seven) :
    execNoteOn pitch vel (s.withUnread f a) = thenStep (execNoteOn pitch vel s) fun t => .next (t.withUnread f a) := by
  have hvictim : (s.withUnread f a).victim = s.victim := rfl
  simp only [execNoteOn, hvictim]
  split
  next v _ => exact congrArg Host.Outcome.next (s.strike_withUnread f a s.victimList v pitch vel)
  next => rfl

theorem exec_withUnread (i : Instr) :
    exec i (s.withUnread f a) = thenStep (exec i s) fun t => .next (t.withUnread f a) := by
  rw [← Instr.instr_shape i]
  cases i.shape with
  | noteOn pitch vel => exact execNoteOn_withUnread s f a pitch vel
  | noteOnV0 pitch | noteOff pitch _ => exact congrArg Host.Outcome.next (s.keyUp_withUnread f a pitch)
  | set k v =>
    simp only [InstrShape.instr, exec_setInstr]
    exact execSetParam_withUnread s f a k v
  | ctrl id v =>
    have hparam : (s.withUnread f a).cfg.paramOf id = s.cfg.paramOf id := rfl
    simp only [InstrShape.instr, exec, execCtrl, hparam]
    split
    next k _ => exact execSetParam_withUnread s f a k v
    next => rfl
  | tick _ => exact congrArg Host.Outcome.next (s.advanceRamps.sample_withUnread f a)
  | reset _ | reserved _ => rfl

end

/-- Settles O53: the word decodes alike, and its instruction commutes with writing the two parameters. -/
theorem framesAndPortAttachAreNotRead : Obligations.FramesAndPortAttachAreNotRead := by
  intro s t f a h
  change step (s.withUnread f a) = .next (t.withUnread f a)
  cases hp : s.port with
  | nil =>
    cases (step_of_port_nil hp).symm.trans h
    exact step_of_port_nil (s := s.withUnread f a) hp
  | cons w rest =>
    cases hd : decode s.cfg w with
    | error e =>
      cases (step_of_decode_error hp hd).symm.trans h
      exact step_of_decode_error (s := s.withUnread f a) hp ((decode_withUnread s.cfg f a w).trans hd)
    | ok i =>
      have hi : exec i (s.taken rest) = .next t := (step_of_decode hp hd).symm.trans h
      calc
        step (s.withUnread f a) = exec i ((s.taken rest).withUnread f a) :=
            step_of_decode (s := s.withUnread f a) hp ((decode_withUnread s.cfg f a w).trans hd)
        _ = .next (t.withUnread f a) := by rw [exec_withUnread, hi]; rfl

end Machine
end Sys2Proof

/-!
PROOF. The encoding (30_encoding.md R130 to R142). A port word is put together from fields, and each field reads back
(R130, R133): so every word is a command word or a class with its payload (`PortWord.cases`), and the decoder needs one
equation for each kind. Decoding what was encoded, encoding what was decoded, and which words are rejected follow from
these equations and from what `CTRL_MAP` says of a control ID (R381).
-/

namespace Sys2Proof

/-! ## The fields of a port word -/

@[simp] theorem toNat_dataByte (x : Seven) : (dataByte x).toNat = x.toNat := by
  rw [dataByte, BitVec.toNat_append]
  simp

@[simp] theorem toNat_sevenOf (d : Byte) : (sevenOf d).toNat = d.toNat % 128 := by
  simp [sevenOf]

@[simp] theorem msb_dataByte (x : Seven) : (dataByte x).msb = false := by
  rw [BitVec.msb_eq_false_iff_two_mul_lt, toNat_dataByte]
  omega

@[simp] theorem sevenOf_dataByte (x : Seven) : sevenOf (dataByte x) = x := by
  apply BitVec.eq_of_toNat_eq
  rw [toNat_sevenOf, toNat_dataByte, Nat.mod_eq_of_lt x.isLt]

theorem dataByte_sevenOf {d : Byte} (h : d.msb = false) : dataByte (sevenOf d) = d := by
  have hlt := BitVec.msb_eq_false_iff_two_mul_lt.mp h
  apply BitVec.eq_of_toNat_eq
  rw [toNat_dataByte, toNat_sevenOf]
  omega

/-- The check of R136 fails, or both data bytes are 7-bit operands (R138). -/
theorem bit7_or_exists_dataByte (d1 d2 : Byte) :
    (d1.msb = true ∨ d2.msb = true) ∨ ∃ x y, d1 = dataByte x ∧ d2 = dataByte y := by
  by_cases hbit : d1.msb = true ∨ d2.msb = true
  · exact .inl hbit
  · obtain ⟨hd1, hd2⟩ : d1.msb = false ∧ d2.msb = false := by simpa [not_or] using hbit
    exact .inr ⟨_, _, (dataByte_sevenOf hd1).symm, (dataByte_sevenOf hd2).symm⟩

/-- A port word of an operation class and a payload (R130, R132): what TICK, RESET and a reserved word encode to. -/
def classWord (c : BitVec 2) (payload : BitVec 24) : PortWord := c ++ payload

theorem toNat_classWord (c : BitVec 2) (payload : BitVec 24) :
    (classWord c payload).toNat = c.toNat * 2 ^ 24 + payload.toNat := by
  rw [classWord, BitVec.toNat_append, ← Nat.shiftLeft_add_eq_or_of_lt payload.isLt, Nat.shiftLeft_eq]

theorem toNat_commandWord (s d1 d2 : Byte) :
    (commandWord s d1 d2).toNat = s.toNat * 2 ^ 16 + d1.toNat * 2 ^ 8 + d2.toNat := by
  rw [commandWord, BitVec.toNat_append, BitVec.toNat_append, BitVec.toNat_append,
    ← Nat.shiftLeft_add_eq_or_of_lt d2.isLt, ← Nat.shiftLeft_add_eq_or_of_lt d1.isLt,
    ← Nat.shiftLeft_add_eq_or_of_lt s.isLt]
  simp only [Nat.shiftLeft_eq, BitVec.toNat_zero]
  omega

/-- A field of a word is a quotient and a remainder of its number. -/
theorem toNat_field (w : PortWord) (start len : Nat) :
    (w.extractLsb' start len).toNat = w.toNat / 2 ^ start % 2 ^ len := by
  rw [BitVec.extractLsb'_toNat, Nat.shiftRight_eq_div_pow]

@[simp] theorem op_classWord (c : BitVec 2) (payload : BitVec 24) : (classWord c payload).op = c := by
  apply BitVec.eq_of_toNat_eq
  rw [PortWord.op, toNat_field, toNat_classWord]
  omega

@[simp] theorem payload_classWord (c : BitVec 2) (payload : BitVec 24) : (classWord c payload).payload = payload := by
  apply BitVec.eq_of_toNat_eq
  rw [PortWord.payload, toNat_field, toNat_classWord]
  omega

section
variable (s d1 d2 : Byte)

@[simp] theorem op_commandWord : (commandWord s d1 d2).op = 0#2 := by
  apply BitVec.eq_of_toNat_eq
  rw [PortWord.op, toNat_field, toNat_commandWord, BitVec.toNat_ofNat]
  omega

@[simp] theorem status_commandWord : (commandWord s d1 d2).status = s := by
  apply BitVec.eq_of_toNat_eq
  rw [PortWord.status, toNat_field, toNat_commandWord]
  omega

@[simp] theorem d1_commandWord : (commandWord s d1 d2).d1 = d1 := by
  apply BitVec.eq_of_toNat_eq
  rw [PortWord.d1, toNat_field, toNat_commandWord]
  omega

@[simp] theorem d2_commandWord : (commandWord s d1 d2).d2 = d2 := by
  apply BitVec.eq_of_toNat_eq
  rw [PortWord.d2, toNat_field, toNat_commandWord]
  omega

end

theorem classWord_op_payload (w : PortWord) : classWord w.op w.payload = w := by
  apply BitVec.eq_of_toNat_eq
  rw [toNat_classWord, PortWord.op, PortWord.payload, toNat_field, toNat_field]
  omega

theorem commandWord_fields {w : PortWord} (h : w.op = 0#2) : commandWord w.status w.d1 w.d2 = w := by
  have hw := bytes_append w
  rwa [show w.extractLsb' 24 2 = 0#2 from h] at hw

/-- Every port word is a command word or a word of one of the other three classes (R132). -/
theorem PortWord.cases (w : PortWord) :
    (∃ s d1 d2, w = commandWord s d1 d2) ∨ ∃ p, w = classWord 1#2 p ∨ w = classWord 2#2 p ∨ w = classWord 3#2 p := by
  have hclass : w.op = 0#2 ∨ w.op = 1#2 ∨ w.op = 2#2 ∨ w.op = 3#2 := by
    generalize w.op = c
    revert c
    decide
  obtain h0 | h := hclass
  · exact .inl ⟨_, _, _, (commandWord_fields h0).symm⟩
  · refine .inr ⟨w.payload, ?_⟩
    obtain h1 | h2 | h3 := h
    · exact .inl (h1 ▸ (classWord_op_payload w).symm)
    · exact .inr (.inl (h2 ▸ (classWord_op_payload w).symm))
    · exact .inr (.inr (h3 ▸ (classWord_op_payload w).symm))

/-! ## The decoder, one equation for each kind of word -/

section
variable (cfg : Config)

theorem decode_commandWord (s d1 d2 : Byte) : decode cfg (commandWord s d1 d2) = decodeCommand cfg s d1 d2 := by
  simp [decode]

theorem decode_classWord_one (p : BitVec 24) : decode cfg (classWord 1#2 p) = .ok (.tick p) := by
  simp [decode]

theorem decode_classWord_two (p : BitVec 24) : decode cfg (classWord 2#2 p) = .ok (.reset p) := by
  simp [decode]

theorem decode_classWord_three (p : BitVec 24) : decode cfg (classWord 3#2 p) = .ok (.reserved p) := by
  simp [decode]

theorem decodeCommand_of_bit7 (s : Byte) {d1 d2 : Byte} (h : d1.msb = true ∨ d2.msb = true) :
    decodeCommand cfg s d1 d2 = .error .dataBit7 := by
  rw [decodeCommand, if_pos (Bool.or_eq_true_iff.mpr h)]

/-- A command whose data bytes are 7-bit operands goes by its status byte alone (R134, R135). -/
theorem decodeCommand_dataByte (s : Byte) (x y : Seven) : decodeCommand cfg s (dataByte x) (dataByte y) =
    if s = cfg.sNoteOn then (if y = 0 then .ok (.noteOnV0 x) else .ok (.noteOn x y))
    else if s = cfg.sNoteOff then .ok (.noteOff x y)
    else if s = cfg.sCtrl then .ok (decodeControl cfg x y)
    else .error .unknownStatus := by
  simp [decodeCommand]

variable {cfg}

/-- What a command can decode to, with the operands its data bytes are (R134, R135, R138). -/
theorem decodeCommand_ok {s d1 d2 : Byte} {i : Instr} (h : decodeCommand cfg s d1 d2 = .ok i) :
    ∃ x y, d1 = dataByte x ∧ d2 = dataByte y ∧
      (s = cfg.sNoteOn ∧ y = 0 ∧ i = .noteOnV0 x ∨ s = cfg.sNoteOn ∧ y ≠ 0 ∧ i = .noteOn x y
        ∨ s = cfg.sNoteOff ∧ i = .noteOff x y ∨ s = cfg.sCtrl ∧ i = decodeControl cfg x y) := by
  obtain hbit | ⟨x, y, rfl, rfl⟩ := bit7_or_exists_dataByte d1 d2
  · rw [decodeCommand_of_bit7 cfg s hbit] at h
    cases h
  refine ⟨x, y, rfl, rfl, ?_⟩
  rw [decodeCommand_dataByte] at h
  split_ifs at h with hon hzero hoff hctrl
  · exact .inl ⟨hon, hzero, (Except.ok.inj h).symm⟩
  · exact .inr (.inl ⟨hon, hzero, (Except.ok.inj h).symm⟩)
  · exact .inr (.inr (.inl ⟨hoff, (Except.ok.inj h).symm⟩))
  · exact .inr (.inr (.inr ⟨hctrl, (Except.ok.inj h).symm⟩))

theorem decodeCommand_error_iff {s d1 d2 : Byte} : (∃ e, decodeCommand cfg s d1 d2 = .error e) ↔
    d1.msb = true ∨ d2.msb = true ∨ s ≠ cfg.sNoteOn ∧ s ≠ cfg.sNoteOff ∧ s ≠ cfg.sCtrl := by
  obtain hbit | ⟨x, y, rfl, rfl⟩ := bit7_or_exists_dataByte d1 d2
  · simp only [decodeCommand_of_bit7 cfg s hbit, ← or_assoc, hbit, true_or, iff_true]
    exact ⟨_, rfl⟩
  · simp only [decodeCommand_dataByte, msb_dataByte, Bool.false_eq_true, false_or]
    split_ifs <;> simp_all

/-- The words the decoder rejects, whatever the configuration (R135, R136, R137, log 4). -/
theorem decode_error_iff {w : PortWord} : (∃ e, decode cfg w = .error e) ↔
    w.op = 0#2 ∧ (w.d1.msb = true ∨ w.d2.msb = true ∨
      w.status ≠ cfg.sNoteOn ∧ w.status ≠ cfg.sNoteOff ∧ w.status ≠ cfg.sCtrl) := by
  obtain ⟨s, d1, d2, rfl⟩ | ⟨p, rfl | rfl | rfl⟩ := w.cases
  · simp only [decode_commandWord, decodeCommand_error_iff, op_commandWord, status_commandWord, d1_commandWord,
      d2_commandWord, true_and]
  · simp [decode_classWord_one]
  · simp [decode_classWord_two]
  · simp [decode_classWord_three]

end

theorem PortWord.msb_d1 (w : PortWord) : w.d1.msb = w.getLsbD 15 := by
  simp [BitVec.msb_eq_getLsbD_last, PortWord.d1]

theorem PortWord.msb_d2 (w : PortWord) : w.d2.msb = w.getLsbD 7 := by
  simp [BitVec.msb_eq_getLsbD_last, PortWord.d2]

/-- Settles O11. -/
theorem rejectedWordsAreTheUndefinedCommands : Obligations.RejectedWordsAreTheUndefinedCommands := by
  intro cfg w _
  rw [decode_error_iff, w.msb_d1, w.msb_d2]
  rfl

/-! ## The control map -/

section
variable {cfg : Config} {id v : Seven} {k : Param}

/-- A control ID selects a parameter exactly when `CTRL_MAP` holds the parameter's id there (R381). -/
theorem Config.paramOf_eq_some_iff : cfg.paramOf id = some k ↔ cfg.ctrlMap[id.toNat]? = some (some k.id) := by
  unfold Config.paramOf
  split
  next n hn =>
    rw [hn, Option.some_inj, Option.some_inj]
    exact ⟨Param.ofId?_eq_some, fun h => h ▸ Param.ofId?_id k⟩
  next hno => exact ⟨nofun, fun h => absurd h (hno k.id)⟩

theorem decodeControl_of_some (h : cfg.paramOf id = some k) : decodeControl cfg id v = k.setInstr v := by
  simp only [decodeControl, h]

theorem decodeControl_of_none (h : cfg.paramOf id = none) : decodeControl cfg id v = .ctrl id v := by
  simp only [decodeControl, h]

theorem wellFormed_setInstr : (k.setInstr v).wellFormed cfg = true ↔ some k.id ∈ cfg.ctrlMap := by
  simp [Instr.wellFormed, InstrShape.wellFormed]

/-- The lowest control ID mapped to a parameter selects it (R141, R381). -/
theorem Config.paramOf_controlIdOf (hlen : cfg.ctrlMap.length = 128) (hk : some k.id ∈ cfg.ctrlMap) :
    cfg.paramOf (controlIdOf cfg k) = some k := by
  cases hfound : cfg.ctrlMap.findIdx? fun e => decide (e = some k.id) with
  | none =>
    rw [List.findIdx?_eq_none_iff] at hfound
    exact absurd (hfound _ hk) (by simp)
  | some j =>
    obtain ⟨hj, hentry, -⟩ := List.findIdx?_eq_some_iff_getElem.mp hfound
    have hid : (controlIdOf cfg k).toNat = j := by
      rw [controlIdOf, hfound, Option.getD_some, BitVec.toNat_ofNat]
      omega
    rw [Config.paramOf_eq_some_iff, hid, List.getElem?_eq_getElem hj, of_decide_eq_true hentry]

end

/-! ## Decoding what was encoded -/

section
variable {cfg : Config}

theorem Config.statuses_ne_of_legal (h : cfg.legal = true) :
    cfg.sNoteOff ≠ cfg.sNoteOn ∧ cfg.sCtrl ≠ cfg.sNoteOn ∧ cfg.sCtrl ≠ cfg.sNoteOff := by
  simp only [Config.legal, Bool.and_eq_true, bne_iff_ne] at h
  obtain ⟨⟨⟨-, hnoteOff⟩, hctrlOn⟩, hctrlOff⟩ := h
  exact ⟨hnoteOff.symm, hctrlOn.symm, hctrlOff.symm⟩

theorem Config.length_ctrlMap_of_legal (h : cfg.legal = true) : cfg.ctrlMap.length = 128 := by
  simp only [Config.legal, Bool.and_eq_true, beq_iff_eq] at h
  obtain ⟨⟨⟨⟨⟨⟨⟨⟨-, hlen⟩, -⟩, -⟩, -⟩, -⟩, -⟩, -⟩, -⟩ := h
  exact hlen

theorem decode_noteOnWord (x y : Seven) : decode cfg (commandWord cfg.sNoteOn (dataByte x) (dataByte y)) =
    if y = 0 then .ok (.noteOnV0 x) else .ok (.noteOn x y) := by
  rw [decode_commandWord, decodeCommand_dataByte, if_pos rfl]

theorem decode_noteOffWord (hlegal : cfg.legal = true) (x y : Seven) :
    decode cfg (commandWord cfg.sNoteOff (dataByte x) (dataByte y)) = .ok (.noteOff x y) := by
  obtain ⟨hoff, -, -⟩ := Config.statuses_ne_of_legal hlegal
  rw [decode_commandWord, decodeCommand_dataByte, if_neg hoff, if_pos rfl]

theorem decode_controlWord (hlegal : cfg.legal = true) (x y : Seven) :
    decode cfg (commandWord cfg.sCtrl (dataByte x) (dataByte y)) = .ok (decodeControl cfg x y) := by
  obtain ⟨-, hctrlOn, hctrlOff⟩ := Config.statuses_ne_of_legal hlegal
  rw [decode_commandWord, decodeCommand_dataByte, if_neg hctrlOn, if_neg hctrlOff, if_pos rfl]

theorem decode_encode_shape (hlegal : cfg.legal = true) {x : InstrShape} (hwf : x.wellFormed cfg = true) :
    decode cfg (x.encode cfg) = .ok x.instr := by
  cases x with
  | noteOn pitch vel => exact (decode_noteOnWord pitch vel).trans (if_neg (of_decide_eq_true hwf))
  | noteOnV0 pitch => exact (decode_noteOnWord pitch 0).trans (if_pos rfl)
  | noteOff pitch ignored => exact decode_noteOffWord hlegal pitch ignored
  | set k v =>
    have hk : some k.id ∈ cfg.ctrlMap := by simpa [InstrShape.wellFormed] using hwf
    have hparam := Config.paramOf_controlIdOf (Config.length_ctrlMap_of_legal hlegal) hk
    exact (decode_controlWord hlegal _ v).trans (congrArg Except.ok (decodeControl_of_some hparam))
  | ctrl id v =>
    have hparam : cfg.paramOf id = none := Option.isNone_iff_eq_none.mp hwf
    exact (decode_controlWord hlegal id v).trans (congrArg Except.ok (decodeControl_of_none hparam))
  | tick payload => exact decode_classWord_one cfg payload
  | reset payload => exact decode_classWord_two cfg payload
  | reserved payload => exact decode_classWord_three cfg payload

theorem decode_encode (hlegal : cfg.legal = true) {i : Instr} (hwf : i.wellFormed cfg = true) :
    decode cfg (encode cfg i) = .ok i :=
  (decode_encode_shape hlegal hwf).trans (congrArg Except.ok i.instr_shape)

end

/-- Settles O8, by the shapes of an instruction. -/
theorem decodeOfEncodeIsTheInstruction : Obligations.DecodeOfEncodeIsTheInstruction :=
  fun _ _ hlegal hwf => decode_encode hlegal hwf

theorem Config.legal_default : Config.default.legal = true := by decide +kernel

/-- The bytes of a table row's bits are the serialised port word (R104). -/
theorem decodeTableWord_toNat {w : PortWord} {i : Instr} (h : decode Config.default w = .ok i) :
    decodeTableWord 32 w.toNat = some i := by
  have hbytes : [BitVec.ofNat 8 (w.toNat % 2 ^ 32), BitVec.ofNat 8 (w.toNat % 2 ^ 32 / 2 ^ 8),
      BitVec.ofNat 8 (w.toNat % 2 ^ 32 / 2 ^ 16), BitVec.ofNat 8 (w.toNat % 2 ^ 32 / 2 ^ 24)] = serialise w ++ [] := by
    have hlt : w.toNat % 2 ^ 32 = w.toNat := Nat.mod_eq_of_lt (by omega)
    simp only [serialise, List.append_nil, List.cons.injEq, ← BitVec.toNat_inj, BitVec.toNat_ofNat, toNat_field, hlt,
      pow_zero, Nat.div_one, and_self]
  simp only [decodeTableWord, hbytes, decodeBytes, deserialise_serialise, h]

theorem decodeTableWord_of_encode {n : Nat} {i : Instr} (hwf : i.wellFormed Config.default = true)
    (hword : (encode Config.default i).toNat = n) : decodeTableWord 32 n = some i :=
  hword ▸ decodeTableWord_toNat (decode_encode Config.legal_default hwf)

/-- Settles O12: each word is the encoding of its instruction. -/
theorem exampleWordsDecode : Obligations.ExampleWordsDecode := by
  refine ⟨?_, ?_, ?_, ?_, ?_, ?_, ?_, ?_, ?_⟩ <;>
  exact decodeTableWord_of_encode (by decide +kernel) (by decide +kernel)

/-! ## Encoding what was decoded -/

section
variable {cfg : Config}

theorem wellFormed_decodeControl (id v : Seven) : (decodeControl cfg id v).wellFormed cfg = true := by
  cases hparam : cfg.paramOf id with
  | none =>
    rw [decodeControl_of_none hparam]
    exact Option.isNone_iff_eq_none.mpr hparam
  | some k =>
    rw [decodeControl_of_some hparam, wellFormed_setInstr]
    exact List.mem_of_getElem? (Config.paramOf_eq_some_iff.mp hparam)

theorem wellFormed_of_decode {w : PortWord} {i : Instr} (h : decode cfg w = .ok i) : i.wellFormed cfg = true := by
  obtain ⟨s, d1, d2, rfl⟩ | ⟨p, rfl | rfl | rfl⟩ := w.cases
  · rw [decode_commandWord] at h
    obtain ⟨x, y, -, -, ⟨-, -, rfl⟩ | ⟨-, hy, rfl⟩ | ⟨-, rfl⟩ | ⟨-, rfl⟩⟩ := decodeCommand_ok h
    · rfl
    · exact decide_eq_true hy
    · rfl
    · exact wellFormed_decodeControl x y
  · cases (decode_classWord_one cfg p).symm.trans h
    rfl
  · cases (decode_classWord_two cfg p).symm.trans h
    rfl
  · cases (decode_classWord_three cfg p).symm.trans h
    rfl

/-- No two control IDs select one parameter, so that the encoder has no choice of a control ID (R141, R381). -/
def Config.MapsOneToOne (cfg : Config) : Prop :=
  ∀ (id id' : Seven) (k : Param), cfg.paramOf id = some k → cfg.paramOf id' = some k → id = id'

theorem encode_decodeControl (hlen : cfg.ctrlMap.length = 128) (hmap : cfg.MapsOneToOne) (id v : Seven) :
    encode cfg (decodeControl cfg id v) = commandWord cfg.sCtrl (dataByte id) (dataByte v) := by
  cases hparam : cfg.paramOf id with
  | none =>
    rw [decodeControl_of_none hparam]
    rfl
  | some k =>
    have hk : some k.id ∈ cfg.ctrlMap := List.mem_of_getElem? (Config.paramOf_eq_some_iff.mp hparam)
    have hid : controlIdOf cfg k = id := hmap _ _ k (Config.paramOf_controlIdOf hlen hk) hparam
    rw [decodeControl_of_some hparam, encode, Param.shape_setInstr, InstrShape.encode, hid]

theorem encode_of_decode (hlen : cfg.ctrlMap.length = 128) (hmap : cfg.MapsOneToOne) {w : PortWord} {i : Instr}
    (h : decode cfg w = .ok i) : encode cfg i = w := by
  obtain ⟨s, d1, d2, rfl⟩ | ⟨p, rfl | rfl | rfl⟩ := w.cases
  · rw [decode_commandWord] at h
    obtain ⟨x, y, rfl, rfl, ⟨rfl, rfl, rfl⟩ | ⟨rfl, -, rfl⟩ | ⟨rfl, rfl⟩ | ⟨rfl, rfl⟩⟩ := decodeCommand_ok h
    · rfl
    · rfl
    · rfl
    · exact encode_decodeControl hlen hmap x y
  · cases (decode_classWord_one cfg p).symm.trans h
    rfl
  · cases (decode_classWord_two cfg p).symm.trans h
    rfl
  · cases (decode_classWord_three cfg p).symm.trans h
    rfl

end

/-- The default `CTRL_MAP` gives a control ID no parameter but the one of the same id (R381). -/
theorem Config.mapsOneToOne_default : Config.default.MapsOneToOne := by
  have hsame : ∀ (id : Seven) (k : Param), Config.default.paramOf id = some k → id.toNat = k.id := by
    intro id k h
    have hentry : Config.identityMap[id.toNat]? = some (some k.id) := Config.paramOf_eq_some_iff.mp h
    rw [Config.identityMap, List.getElem?_map, List.getElem?_range id.isLt, Option.map_some, Option.some_inj] at hentry
    split at hentry
    next => exact Option.some.inj hentry
    next => cases hentry
  exact fun id id' k h h' => BitVec.eq_of_toNat_eq ((hsame id k h).trans (hsame id' k h').symm)

/-- Settles O9: the default `CTRL_MAP` is one to one. -/
theorem encodeOfDecodeIsTheWord : Obligations.EncodeOfDecodeIsTheWord :=
  fun _ _ h => ⟨wellFormed_of_decode h,
    encode_of_decode (Config.length_ctrlMap_of_legal Config.legal_default) Config.mapsOneToOne_default h⟩

/-- Only the words of class 01 decode to TICK (R132). -/
theorem op_eq_one_of_decode_tick {cfg : Config} {w : PortWord} {p : BitVec 24} (h : decode cfg w = .ok (.tick p)) :
    w.op = 1#2 := by
  obtain ⟨s, d1, d2, rfl⟩ | ⟨q, rfl | rfl | rfl⟩ := w.cases
  · rw [decode_commandWord] at h
    obtain ⟨x, y, -, -, ⟨-, -, hi⟩ | ⟨-, -, hi⟩ | ⟨-, hi⟩ | ⟨-, hi⟩⟩ := decodeCommand_ok h
    · cases hi
    · cases hi
    · cases hi
    · have hshape := congrArg Instr.shape hi
      cases hparam : cfg.paramOf x with
      | none =>
        rw [decodeControl_of_none hparam] at hshape
        cases hshape
      | some k =>
        rw [decodeControl_of_some hparam, Param.shape_setInstr] at hshape
        cases hshape
  · exact op_classWord 1#2 q
  · cases (decode_classWord_two cfg q).symm.trans h
  · cases (decode_classWord_three cfg q).symm.trans h

/-! ## The step that takes a word -/

namespace Machine

/-- Settles O1. -/
theorem stepRunsTheDecodedInstruction : Obligations.StepRunsTheDecodedInstruction :=
  fun _ _ _ _ hp hd => step_of_decode hp hd

/-- Settles O2. -/
theorem rejectedWordIsNoOperation : Obligations.RejectedWordIsNoOperation :=
  fun _ _ _ _ hp hd => step_of_decode_error hp hd

theorem exec_tick (payload : BitVec 24) (s : State) : exec (.tick payload) s = .next s.advanceRamps.sample := rfl

theorem exec_reset (payload : BitVec 24) (s : State) : exec (.reset payload) s =
    .next { State.resetOf s.cfg with port := s.port, out := s.out, nanDraws := s.nanDraws } := rfl

theorem exec_reserved (payload : BitVec 24) (s : State) : exec (.reserved payload) s = .next s := rfl

/-- Settles O54. -/
theorem payloadsAreIgnored : Obligations.PayloadsAreIgnored :=
  fun p q s => ⟨(exec_tick p s).trans (exec_tick q s).symm, (exec_reset p s).trans (exec_reset q s).symm,
    exec_reserved p s⟩

/-- No SET returns anything (R131, R382). -/
theorem execSetParam_out (k : Param) (v : Seven) (s : State) : ∃ t, execSetParam k v s = .next t ∧ t.out = s.out := by
  cases k with
  | ufType =>
    refine ⟨_, rfl, ?_⟩
    split <;> rfl
  | _ => exact ⟨_, rfl, rfl⟩

theorem execCtrl_out (id v : Seven) (s : State) : ∃ t, execCtrl id v s = .next t ∧ t.out = s.out := by
  unfold execCtrl
  split
  next k _ => exact execSetParam_out k v s
  next => exact ⟨s, rfl, rfl⟩

theorem execNoteOn_out (pitch vel : Seven) (s : State) : ∃ t, execNoteOn pitch vel s = .next t ∧ t.out = s.out := by
  unfold execNoteOn
  split
  next v _ => exact ⟨_, rfl, s.strike_out s.victimList v pitch vel⟩
  next => exact ⟨s, rfl, rfl⟩

/-- No instruction but TICK returns anything (R131). -/
theorem exec_out_of_ne_tick {i : Instr} (hi : ∀ p, i ≠ .tick p) (s : State) :
    ∃ t, exec i s = .next t ∧ t.out = s.out := by
  rw [← Instr.instr_shape i] at hi ⊢
  generalize i.shape = x at hi ⊢
  cases x with
  | noteOn pitch vel => exact execNoteOn_out pitch vel s
  | noteOnV0 pitch | noteOff pitch _ => exact ⟨_, rfl, s.keyUp_out pitch⟩
  | set k v => exact exec_setInstr k v s ▸ execSetParam_out k v s
  | ctrl id v => exact execCtrl_out id v s
  | tick payload => exact absurd rfl (hi payload)
  | reset payload => exact ⟨_, exec_reset payload s, rfl⟩
  | reserved payload => exact ⟨_, exec_reserved payload s, rfl⟩

/-- Settles O5: only a word of class 01 decodes to TICK, and no other instruction returns a pair. -/
theorem onlyTickReturnsAPair : Obligations.OnlyTickReturnsAPair := by
  intro s t w rest hp h
  change t.out.isSome = true ↔ w.op = 1#2
  have hnone (ht : t.out = none) (hop : w.op ≠ 1#2) : t.out.isSome = true ↔ w.op = 1#2 := by simp [ht, hop]
  cases hd : decode s.cfg w with
  | error e =>
    cases (step_of_decode_error hp hd).symm.trans h
    obtain ⟨hop, -⟩ := decode_error_iff.mp ⟨e, hd⟩
    exact hnone rfl (by simp [hop])
  | ok i =>
    have hstep : exec i (s.taken rest) = .next t := (step_of_decode hp hd).symm.trans h
    by_cases htick : ∃ p, i = .tick p
    · obtain ⟨p, rfl⟩ := htick
      cases (exec_tick p (s.taken rest)).symm.trans hstep
      exact iff_of_true rfl (op_eq_one_of_decode_tick hd)
    · obtain ⟨t', ht', hout⟩ := exec_out_of_ne_tick (not_exists.mp htick) (s.taken rest)
      cases ht'.symm.trans hstep
      refine hnone hout fun hop => htick ⟨w.payload, ?_⟩
      rw [← classWord_op_payload w, hop, decode_classWord_one] at hd
      exact (Except.ok.inj hd).symm

end Machine
end Sys2Proof

/-!
PROOF. The voice allocator and the order of a TICK (40_voice_allocator.md R160 to R173). The laws of `unlink` and `append`
say of every slot what becomes of its links. A note and a key up move one slot and then write it: every slot after the move
is the one before it but for its links (`Slot.SameButLinks`), the lists are those of `State.Allocated.strike` and
`State.Allocated.release`, and what is left is which slot is taken (R164, R166). No part of the voice pass reads a tag, so
the pass commutes with clearing the tags (R168).
-/

namespace Sys2Proof

/-! ## A slot and its links -/

theorem Slot.SameButLinks.refl (x : Slot) : x.SameButLinks x := rfl

theorem Slot.sameButLinks_withLinks (x : Slot) (p n : Option Nat) : x.SameButLinks { x with prev := p, next := n } := rfl

theorem Slot.SameButLinks.trans {x y z : Slot} (hxy : x.SameButLinks y) (hyz : y.SameButLinks z) : x.SameButLinks z := by
  rw [hyz, hxy]
  rfl

/-- `set_pitch` and the other writes of a note do not read the links (R163, R164). -/
theorem Slot.SameButLinks.struck {x y : Slot} (h : x.SameButLinks y) (cfg : Config) (P : Params) (pitch vel : Seven) :
    Slot.Struck cfg P pitch vel x (Machine.struckSlot cfg P pitch vel y) := by
  rw [h]
  exact ⟨rfl, rfl, rfl, fun m => by cases m <;> rfl, rfl, rfl, rfl, rfl⟩

/-- The slot a key up leaves, before its links (R166). -/
theorem Slot.SameButLinks.silenced {x y : Slot} (h : x.SameButLinks y) :
    Slot.SameButLinks { x with tag := .free, vel := F32.zero } { y with tag := .free, vel := F32.zero } := by
  rw [h]
  rfl

/-! ## The voice pass does not read the tags (R168) -/

/-- A slot with its tag cleared. -/
def Slot.freed (x : Slot) : Slot := { x with tag := .free }

theorem slotTick_freed (cfg : Config) (P : Params) (C : Coefs) (x : Slot) (l r : F32) :
    slotTick cfg P C x.freed l r = ((slotTick cfg P C x l r).1.freed, (slotTick cfg P C x l r).2) := rfl

theorem voicePass_freed (cfg : Config) (P : Params) (C : Coefs) (xs : List Slot) (l r : F32) :
    voicePass cfg P C (xs.map Slot.freed) l r =
      ((voicePass cfg P C xs l r).1.map Slot.freed, (voicePass cfg P C xs l r).2) := by
  induction xs generalizing l r with
  | nil => rfl
  | cons x rest ih => simp only [List.map_cons, voicePass, slotTick_freed, ih]

namespace Machine

/-! ## `unlink` and `append` (R160, R161) -/

theorem State.sameButPool_unlink (s : State) (l : ListName) (v : Nat) : s.SameButPool (s.unlink l v) :=
  ⟨s.unlink_cfg l v, s.unlink_port l v, s.unlink_out l v, s.unlink_nanDraws l v, s.unlink_params l v, s.unlink_coefs l v,
    s.unlink_bus l v⟩

theorem State.sameButPool_append (s : State) (l : ListName) (v : Nat) : s.SameButPool (s.append l v) :=
  ⟨s.append_cfg l v, s.append_port l v, s.append_out l v, s.append_nanDraws l v, s.append_params l v, s.append_coefs l v,
    s.append_bus l v⟩

/-- Settles O20. -/
theorem unlinkFollowsItsPointers : Obligations.UnlinkFollowsItsPointers := by
  refine fun s l v x hx _ _ => ⟨fun u y hy => ?_, ?_, fun m hm => ?_, s.sameButPool_unlink l v⟩
  · rw [State.getElem?_unlink hx, hy]
    rfl
  · rw [State.list_unlink hx, if_pos rfl]
  · rw [State.list_unlink hx, if_neg hm]

/-- Settles O21: where the slot is not the tail, the link from the old tail and the slot's own links are written to different
slots. -/
theorem appendMakesTheYoungest : Obligations.AppendMakesTheYoungest := by
  refine fun s l v htail => ⟨fun u y hy => ?_, ?_, fun m hm => ?_, s.sameButPool_append l v⟩
  · rw [State.getElem?_append, hy, Option.map_some]
    by_cases huv : u = v
    · subst huv
      simp [htail]
    · simp [huv]
  · rw [State.list_append, if_pos rfl]
  · rw [State.list_append, if_neg hm]

/-- `unlink` writes nothing of a slot but its links. -/
theorem State.slot_unlink (s : State) (l : ListName) (v : Nat) {u : Nat} {x : Slot} (hx : s.slots[u]? = some x) :
    ∃ y, (s.unlink l v).slots[u]? = some y ∧ x.SameButLinks y := by
  cases hv : s.slots[v]? with
  | none => exact ⟨x, by rw [State.unlink_of_none hv, hx], .refl x⟩
  | some z => exact ⟨_, by rw [State.getElem?_unlink hv, hx, Option.map_some], x.sameButLinks_withLinks _ _⟩

/-- `append` writes nothing of a slot but its links. -/
theorem State.slot_append (s : State) (l : ListName) (v : Nat) {u : Nat} {x : Slot} (hx : s.slots[u]? = some x) :
    ∃ y, (s.append l v).slots[u]? = some y ∧ x.SameButLinks y :=
  ⟨_, by rw [State.getElem?_append, hx, Option.map_some], x.sameButLinks_withLinks _ _⟩

/-- A move from list `l` to the end of list `m` writes nothing of a slot but its links. -/
theorem State.slot_move (s : State) (l m : ListName) (v : Nat) {u : Nat} {x : Slot} (hx : s.slots[u]? = some x) :
    ∃ y, ((s.unlink l v).append m v).slots[u]? = some y ∧ x.SameButLinks y := by
  obtain ⟨y, hy, hxy⟩ := s.slot_unlink l v hx
  obtain ⟨z, hz, hyz⟩ := (s.unlink l v).slot_append m v hy
  exact ⟨z, hz, hxy.trans hyz⟩

/-! ## NOTE_ON (R164) -/

theorem State.sameButPool_strike (s : State) (l : ListName) (v : Nat) (pitch vel : Seven) :
    s.SameButPool (s.strike l v pitch vel) :=
  ⟨s.strike_cfg l v pitch vel, s.strike_port l v pitch vel, s.strike_out l v pitch vel, s.strike_nanDraws l v pitch vel,
    s.strike_params l v pitch vel, s.strike_coefs l v pitch vel, s.strike_bus l v pitch vel⟩

/-- The slot a note takes has the note struck on it (R163, R164). -/
theorem State.slot_strike_self (s : State) (l : ListName) {v : Nat} (pitch vel : Seven) {x : Slot}
    (hx : s.slots[v]? = some x) :
    ∃ y, (s.strike l v pitch vel).slots[v]? = some y ∧ Slot.Struck s.cfg s.params pitch vel x y := by
  obtain ⟨z, hz, hxz⟩ := s.slot_move l .asg v hx
  exact ⟨_, by rw [State.getElem?_strike, hz, Option.map_some, if_pos rfl], hxz.struck s.cfg s.params pitch vel⟩

theorem State.otherSlots_strike (s : State) (l : ListName) (v : Nat) (pitch vel : Seven) :
    s.OtherSlotsSameButLinks (s.strike l v pitch vel) v := by
  intro u huv x hx
  obtain ⟨y, hy, hxy⟩ := s.slot_move l .asg v hx
  exact ⟨y, by rw [State.getElem?_strike, hy, Option.map_some, if_neg huv], hxy⟩

theorem exec_noteOn {s : State} {v : Nat} (h : s.victim = some v) (pitch vel : Seven) :
    exec (.noteOn pitch vel) s = .next (s.strike s.victimList v pitch vel) := by
  simp [exec, execNoteOn, h]

/-- NOTE_ON on a pool whose oldest slot of the list it takes from is `v`: the lists after it, the slot it strikes and what it
leaves alone (R164). -/
theorem State.Allocated.noteOn_spec {s : State} {f : ListName → List Nat} {v : Nat} (h : s.Allocated f)
    (hv : s.victim = some v) (pitch vel : Seven) :
    ∃ t x y, exec (.noteOn pitch vel) s = .next t ∧ t.Lists (moved f .asg v .asg) (moved f .asg v .rel)
      ∧ s.slots[v]? = some x ∧ t.slots[v]? = some y ∧ Slot.Struck s.cfg s.params pitch vel x y
      ∧ s.SameButPool t ∧ s.OtherSlotsSameButLinks t v := by
  have hmem : v ∈ f s.victimList := h.mem_of_victim hv
  have hx : s.slots[v]? = some _ := List.getElem?_eq_getElem ((h.exists_mem_iff v).mp ⟨_, hmem⟩)
  obtain ⟨y, hy, hstruck⟩ := s.slot_strike_self s.victimList pitch vel hx
  exact ⟨_, _, y, exec_noteOn hv pitch vel, (State.lists_iff_allocated ..).mpr (h.strike hmem pitch vel), hx, hy,
    hstruck, s.sameButPool_strike .., s.otherSlots_strike _ v pitch vel⟩

/-- Settles O22: the released list counts at least one slot, and its head is `v`. -/
theorem noteOnTakesTheOldestReleasedSlot : Obligations.NoteOnTakesTheOldestReleasedSlot := by
  intro s A R v pitch vel h
  have halloc := h.allocated
  have hcount : s.rel.count = (v :: R).length := (halloc.queue .rel).count
  have hhead : s.rel.head = some v := (halloc.queue .rel).head
  have hvictim : s.victim = some v := by simp [State.victim, hcount, hhead]
  have hvA : v ∉ A := halloc.disjoint .rel .asg (by decide) List.mem_cons_self
  simpa [moved, contents, List.erase_of_not_mem hvA] using halloc.noteOn_spec hvictim pitch vel

/-- Settles O23: the released list counts no slot, and the head of the assigned list is `v`. -/
theorem noteOnStealsTheOldestAssignedSlot : Obligations.NoteOnStealsTheOldestAssignedSlot := by
  intro s A v pitch vel h
  have halloc := h.allocated
  have hcount : s.rel.count = 0 := (halloc.queue .rel).count
  have hhead : s.asg.head = some v := (halloc.queue .asg).head
  have hvictim : s.victim = some v := by simp [State.victim, hcount, hhead]
  simpa [moved, contents] using halloc.noteOn_spec hvictim pitch vel

/-! ## A key up (R165, R166) -/

theorem State.sameButPool_release (s : State) (v : Nat) : s.SameButPool (s.release v) :=
  ⟨s.release_cfg v, s.release_port v, s.release_out v, s.release_nanDraws v, s.release_params v, s.release_coefs v,
    s.release_bus v⟩

theorem State.slot_release_self (s : State) {v : Nat} {x : Slot} (hx : s.slots[v]? = some x) :
    ∃ y, (s.release v).slots[v]? = some y ∧ Slot.SameButLinks { x with tag := .free, vel := F32.zero } y := by
  obtain ⟨z, hz, hxz⟩ := s.slot_move .asg .rel v hx
  exact ⟨_, by rw [State.getElem?_release, hz, Option.map_some, if_pos rfl], hxz.silenced⟩

theorem State.otherSlots_release (s : State) (v : Nat) : s.OtherSlotsSameButLinks (s.release v) v := by
  intro u huv x hx
  obtain ⟨y, hy, hxy⟩ := s.slot_move .asg .rel v hx
  exact ⟨y, by rw [State.getElem?_release, hy, Option.map_some, if_neg huv], hxy⟩

/-- The search finds nothing where no slot matches; the converse of `State.firstMatch_none`. -/
theorem State.firstMatch_eq_none {s : State} {pitch : Seven}
    (h : ∀ x ∈ s.slots, ¬ (x.tag = .assigned ∧ x.pitch = pitch)) : s.firstMatch pitch = none := by
  rw [Option.eq_none_iff_forall_ne_some]
  intro v hv
  obtain ⟨⟨x, hx, hmatch⟩, -⟩ := State.firstMatch_spec hv
  exact h x (List.mem_of_getElem? hx) hmatch

/-- The search finds the lowest slot that matches; the converse of `State.firstMatch_spec`. -/
theorem State.firstMatch_eq_some {s : State} {pitch : Seven} {v : Nat} {x : Slot} (hx : s.slots[v]? = some x)
    (hmatch : x.tag = .assigned ∧ x.pitch = pitch)
    (hlow : ∀ u z, u < v → s.slots[u]? = some z → ¬ (z.tag = .assigned ∧ z.pitch = pitch)) :
    s.firstMatch pitch = some v := by
  cases hw : s.firstMatch pitch with
  | none => exact absurd hmatch (State.firstMatch_none hw x (List.mem_of_getElem? hx))
  | some w =>
    obtain ⟨⟨z, hz, hzmatch⟩, hwlow⟩ := State.firstMatch_spec hw
    have hvw : ¬ v < w := fun hlt => hwlow v hlt x hx hmatch
    have hwv : ¬ w < v := fun hlt => hlow w z hlt hz hzmatch
    rw [show w = v by omega]

theorem exec_noteOff (pitch ignored : Seven) (s : State) : exec (.noteOff pitch ignored) s = .next (s.keyUp pitch) := rfl

theorem exec_noteOnV0 (pitch : Seven) (s : State) : exec (.noteOnV0 pitch) s = .next (s.keyUp pitch) := rfl

/-- Settles O24. -/
theorem keyUpReleasesTheFirstMatch : Obligations.KeyUpReleasesTheFirstMatch := by
  intro s A R v x pitch ignored h hx htag hpitch hlow
  have halloc := h.allocated
  have hmatch : s.firstMatch pitch = some v := State.firstMatch_eq_some hx ⟨htag, hpitch⟩ hlow
  have hkeyUp : s.keyUp pitch = s.release v := by simp [State.keyUp, hmatch]
  have hvA : v ∈ A := halloc.mem_of_firstMatch hmatch
  have hvR : v ∉ R := halloc.disjoint .asg .rel (by decide) hvA
  have hlists : (s.release v).Lists (A.erase v) (R ++ [v]) := by
    simpa [moved, contents, List.erase_of_not_mem hvR] using (State.lists_iff_allocated ..).mpr (halloc.release hvA)
  obtain ⟨y, hy, hxy⟩ := s.slot_release_self hx
  exact ⟨s.release v, y, hkeyUp ▸ exec_noteOff pitch ignored s, hkeyUp ▸ exec_noteOnV0 pitch s, hlists, hy, hxy,
    s.sameButPool_release v, s.otherSlots_release v⟩

/-- Settles O25. -/
theorem unmatchedKeyUpChangesNothing : Obligations.UnmatchedKeyUpChangesNothing := by
  intro s pitch ignored h
  have hkeyUp : s.keyUp pitch = s := by simp [State.keyUp, State.firstMatch_eq_none h]
  exact ⟨(exec_noteOff pitch ignored s).trans (by rw [hkeyUp]), (exec_noteOnV0 pitch s).trans (by rw [hkeyUp])⟩

/-! ## TICK (R168, R170, R171, R173, R193) -/

/-- Settles O50: `State.sample` of the advanced parameters, with the bus pass taken apart into its stages. -/
theorem tickRunsTheStagesInOrder : Obligations.TickRunsTheStagesInOrder :=
  fun payload s => exec_tick payload s

/-- Settles O30: the smoother reaches every ramped register, and what it makes of one is one of three things. -/
theorem tickAdvancesEveryRampOnce : Obligations.TickAdvancesEveryRampOnce := by
  refine fun payload s => ⟨_, exec_tick payload s, fun r => ?_, s.params.unramped_mapRamps _, rfl, rfl, rfl, rfl, rfl⟩
  have hadvance : s.advanceRamps.sample.params.ramp r = advance (rampInc s.cfg) (s.params.ramp r) :=
    s.params.ramp_mapRamps _ r
  rw [hadvance]
  obtain ⟨hd, e⟩ | ⟨hd, hge, e⟩ | ⟨hd, hge, e⟩ := advance_cases (rampInc s.cfg) (s.params.ramp r)
  · simp [e, hd]
  · simp [e, hd, hge]
  · simp [e, hd, hge]

/-- The state with every slot's tag cleared. -/
def State.freed (s : State) : State := { s with slots := s.slots.map Slot.freed }

theorem State.sample_freed (s : State) : s.freed.sample = s.sample.freed := by
  have hvoices := voicePass_freed s.cfg s.params s.coefs s.slots F32.zero F32.zero
  simp only [State.sample, State.freed, State.output, hvoices]

/-- Settles O52: the smoother reads no slot, and the voice pass and the bus stages read no tag. -/
theorem releasedSlotsRunAsAssignedOnes : Obligations.ReleasedSlotsRunAsAssignedOnes := by
  intro payload s t h
  cases (exec_tick payload s).symm.trans h
  exact (exec_tick payload s.freed).trans (congrArg _ s.advanceRamps.sample_freed)

end Machine
end Sys2Proof

/-!
PROOF. The start of a ramp (41_smoother.md R192): `initRamp_spec` with the ramp's start, `0.0`, read as a pattern.
-/

namespace Sys2Proof

/-- The pattern `0x00000000` is `+0.0` (R12). -/
theorem F32.zero_eq_lit : F32.zero = lit 0 := rfl

namespace Machine

/-- Settles O26: the law of `initRamp`, its `ramp` the zero of the pattern 0. -/
theorem initRampStartsFromTheValueReached : Obligations.InitRampStartsFromTheValueReached := by
  intro r t
  rw [initRamp_spec, F32.zero_eq_lit]

end Machine
end Sys2Proof

/-!
PROOF. The oscillators under a TICK (43_oscillator.md R250 to R255). What one oscillator step makes of the phase, and of the
generator on each side of the wrap edge, is said once of `oscTick`; the voice pass steps each oscillator of each slot once.
-/

namespace Sys2Proof

/-! ## One oscillator -/

/-- The wrap of the next LCG state is the reduction mod 2^32 of R254. -/
theorem toNat_lcgNext (s : U32) : (lcgNext s).toNat = (1103515245 * s.toNat + 12345) % 4294967296 := by
  unfold lcgNext
  bv_omega

section
variable (cfg : Config) (k : OpCoef) (fluct : F32) (o : Osc) (pm : F32)

/-- The base frequency is not written by the oscillator's step (R250). -/
theorem oscTick_f0 : (oscTick cfg k fluct o pm).2.f0 = o.f0 := by
  unfold oscTick
  dsimp only
  split <;> rfl

/-- The phase advances by the increment and is wrapped; the wrap edge changes the increment of the next tick only (R250). -/
theorem oscTick_p : (oscTick cfg k fluct o pm).2.p = wrapPhase (o.p.add o.inc) := by
  unfold oscTick
  dsimp only
  split <;> rfl

variable {cfg k fluct o pm}

/-- Off the wrap edge the generator and the increment stand (R250, R252). -/
theorem oscTick_of_not_wrapEdge (h : isWrapEdge o.p (oscTick cfg k fluct o pm).2.p = false) :
    (oscTick cfg k fluct o pm).2.s = o.s ∧ (oscTick cfg k fluct o pm).2.r = o.r
      ∧ (oscTick cfg k fluct o pm).2.inc = o.inc := by
  rw [oscTick_p] at h
  simp [oscTick, h]

/-- At the wrap edge the generator draws once, and the increment is `incOf` of the oscillator that holds the new value
(R250, R253, R254). -/
theorem oscTick_of_wrapEdge (h : isWrapEdge o.p (oscTick cfg k fluct o pm).2.p = true) :
    (oscTick cfg k fluct o pm).2.s = lcgNext o.s
      ∧ (oscTick cfg k fluct o pm).2.r = lcgValue (oscTick cfg k fluct o pm).2.s
      ∧ (oscTick cfg k fluct o pm).2.inc = incOf cfg (oscTick cfg k fluct o pm).2 fluct := by
  rw [oscTick_p] at h
  simp [oscTick, h, lcgStep, incOf]

end

/-! ## The oscillators of a slot -/

/-- A slot's part of the voice pass steps the oscillator of each module once, under the module's own parameters (R281). -/
theorem slotTick_osc (cfg : Config) (P : Params) (C : Coefs) (v : Slot) (l r : F32) (m : Module) :
    (slotTick cfg P C v l r).1.osc.get m =
      (oscTick cfg (C.chirp.get m) (P.mods.get m).fluct.cur (v.osc.get m) (pmInput P v m)).2 := by
  cases m <;> rfl

namespace Machine

/-- A slot after a TICK is its own part of the voice pass, under the parameters the smoother left (R170). -/
theorem State.slot_tick {s : State} {u : Nat} {x y : Slot} (hx : s.slots[u]? = some x)
    (hy : s.advanceRamps.sample.slots[u]? = some y) :
    ∃ l r, y = (slotTick s.cfg s.advanceRamps.params s.coefs x l r).1 := by
  obtain ⟨l, r, hu⟩ := getElem?_voicePass s.cfg s.advanceRamps.params s.coefs s.slots F32.zero F32.zero u
  rw [hx] at hu
  exact ⟨l, r, Option.some.inj (hy.symm.trans hu)⟩

/-- Settles O49: the slot's fields by `slotTick_spec`, its oscillators by the laws of `oscTick`. -/
theorem tickKeepsTheAssignmentOfEverySlot : Obligations.TickKeepsTheAssignmentOfEverySlot := by
  intro payload s t u x y m h hx hy
  cases (exec_tick payload s).symm.trans h
  obtain ⟨l, r, rfl⟩ := State.slot_tick hx hy
  obtain ⟨htag, hpitch, hvel, hnext, hprev, hcombD, -⟩ := slotTick_spec s.cfg s.advanceRamps.params s.coefs x l r
  rw [slotTick_osc]
  refine ⟨htag, hpitch, hvel, hnext, hprev, hcombD, oscTick_f0 .., oscTick_p .., oscTick_of_not_wrapEdge, fun hedge => ?_⟩
  obtain ⟨hs, hr, hinc⟩ := oscTick_of_wrapEdge hedge
  exact ⟨hs ▸ toNat_lcgNext _, hr, hinc⟩

end Machine
end Sys2Proof

/-!
PROOF. A whole TICK, stage by stage (43_oscillator.md R250, 45_soundgenerator.md R280 to R283, 46_outputmixer.md R300 to
R304, 47_cabinet.md R321, 48_echo_delay_comb.md R350, R363, R370). The model writes each stage out once per module or once per
channel. Here each is a function of the module or the channel, tied to `slotTick` and `busPass` by one law; so the rules
are compared with one expression per stage, and not with the two copies of it.
-/

namespace Sys2Proof

/-! ## A slot's part, by module -/

section
variable (cfg : Config) (P : Params) (C : Coefs) (v : Slot)

/-- The sample of a module's oscillator (R250, R281). -/
def oscSample (m : Module) : F32 :=
  (oscTick cfg (C.chirp.get m) (P.mods.get m).fluct.cur (v.osc.get m) (pmInput P v m)).1

/-- The crossfade of a module's raw sample with its shaped one (R280, R281). -/
def shapeMix (m : Module) (mix : F32) : F32 :=
  bxf (oscSample cfg P C v m) (shapedOut (P.mods.get m) (oscSample cfg P C v m)) mix

/-- A module's output, the ring product of both modules' main outputs mixed in (R281, R283). -/
def ringSample (m : Module) : F32 :=
  ringOut (P.mods.get m) (shapeMix cfg P C v m (P.mods.get m).mainMix.cur)
    ((shapeMix cfg P C v .a P.mods.a.mainMix.cur).mul (shapeMix cfg P C v .b P.mods.b.mainMix.cur))

/-- The comb step of a module, fed with the module's output (R363). -/
def combStep (m : Module) : F32 × Comb :=
  combTick cfg C.combAp P.combDecay.cur P.combMix.cur v.combD (v.comb.get m) (ringSample cfg P C v m)

/-- The gain of a module in a channel under the key pan `kp` (R301). -/
def panGain (P : Params) (kp : F32) (m : Module) (c : Channel) : F32 :=
  let pan := (kp.add (P.mods.get m).pan.cur).clamp01
  (if c = .l then F32.one.sub pan else pan).mul (P.mods.get m).level.cur

/-- What a slot adds to the sum of a channel (R301, R302). -/
def slotShare (c : Channel) : F32 :=
  let kp := keypan P.keypan.cur v.pitch
  (((combStep cfg P C v .a).1.mul (panGain P kp .a c)).add ((combStep cfg P C v .b).1.mul (panGain P kp .b c))).mul v.vel

variable (l r : F32)

theorem slotTick_selfMix (m : Module) :
    (slotTick cfg P C v l r).1.selfMix.get m = shapeMix cfg P C v m (P.mods.get m).pmSelfShp.cur := by
  cases m <;> rfl

theorem slotTick_crossMix (m : Module) :
    (slotTick cfg P C v l r).1.crossMix.get m = shapeMix cfg P C v m (P.mods.get m).pmCrossShp.cur := by
  cases m <;> rfl

theorem slotTick_comb (m : Module) : (slotTick cfg P C v l r).1.comb.get m = (combStep cfg P C v m).2 := by
  cases m <;> rfl

theorem slotTick_chirp (m : Module) :
    ((slotTick cfg P C v l r).1.osc.get m).chirp =
      (opTick cfg.dnc (C.chirp.get m) (v.osc.get m).chirp (pmInput P v m)).2 := by
  rw [slotTick_osc, oscTick_chirp]

theorem slotTick_sum_l : (slotTick cfg P C v l r).2.1 = l.add (slotShare cfg P C v .l) := rfl

theorem slotTick_sum_r : (slotTick cfg P C v l r).2.2 = r.add (slotShare cfg P C v .r) := rfl

end

section
variable (cfg : Config) (P : Params) (C : Coefs)

/-- The sum of a channel over the slots, in index order from `+0.0` (R170 step 3, R301). -/
def slotSum (vs : List Slot) (c : Channel) : F32 := vs.foldl (fun acc x => acc.add (slotShare cfg P C x c)) F32.zero

theorem voicePass_slotSum (vs : List Slot) :
    (voicePass cfg P C vs F32.zero F32.zero).2 = (slotSum cfg P C vs .l, slotSum cfg P C vs .r) := by
  obtain ⟨hl, hr⟩ := voicePass_sums cfg P C vs F32.zero F32.zero
  simp only [slotTick_sum_l] at hl
  simp only [slotTick_sum_r] at hr
  exact Prod.ext hl hr

/-! ## The bus stages, by channel -/

variable (b : Bus) (x : Channel → F32) (c : Channel)

/-- The mixer's post stage of a channel whose sum is `x c` (R303, R304). -/
def mixStep : F32 × Hist1 := mixPostTick cfg P C (b.mixHp.get c) (x c)

/-- The cabinet of a channel, on the mixer's output (R321). -/
def cabStep : F32 × CabChan := cabTick cfg P C (b.cab.get c) (mixStep cfg P C b x c).1

/-- The delay target of a channel (R351). -/
def echoGoal (cfg : Config) (P : Params) (c : Channel) : F32 :=
  let spread := F32.half.mul P.echoStereo
  echoTarget cfg (P.echoTime.mul (if c = .l then F32.one.add spread else F32.one.sub spread))

/-- The echo of a channel, on the cabinet's output and both old histories (R350). -/
def echoStep : F32 × EchoChan :=
  echoChanTick cfg P C (b.echo.get c) (cabStep cfg P C b x c).1 (b.echo.get c).hist (b.echo.get c.other).hist
    (echoGoal cfg P c)

/-- The utility filter of a channel, on the sample `y`: skipped where it is off (R370). -/
def ufChan (h : Hist2) (y : F32) : F32 × Hist2 := if P.ufEnable then bqTick cfg.dnc C.uf h y else (y, h)

theorem ufChan_fst (h : Hist2) (y : F32) :
    (ufChan cfg P C h y).1 = if P.ufEnable then (bqTick cfg.dnc C.uf h y).1 else y :=
  apply_ite Prod.fst ..

theorem ufChan_snd (h : Hist2) (y : F32) :
    (ufChan cfg P C h y).2 = if P.ufEnable then (bqTick cfg.dnc C.uf h y).2 else h :=
  apply_ite Prod.snd ..

/-- The model decides once for both channels what each channel's filter decides by itself. -/
theorem ufStage_eq (h : PerChannel Hist2) (l r : F32) :
    ufStage cfg P C h l r =
      ((ufChan cfg P C h.l l).1, (ufChan cfg P C h.r r).1, ⟨(ufChan cfg P C h.l l).2, (ufChan cfg P C h.r r).2⟩) := by
  cases hon : P.ufEnable <;> simp [ufStage, ufChan, hon]

/-- The utility filter of a channel, on the echo's output (R370). -/
def ufStep : F32 × Hist2 := ufChan cfg P C (b.uf.get c) (echoStep cfg P C b x c).1

theorem busPass_mixHp : (busPass cfg P C b (x .l) (x .r)).2.2.mixHp.get c = (mixStep cfg P C b x c).2 := by
  cases c <;> rfl

theorem busPass_cab : (busPass cfg P C b (x .l) (x .r)).2.2.cab.get c = (cabStep cfg P C b x c).2 := by
  cases c <;> rfl

theorem busPass_echo : (busPass cfg P C b (x .l) (x .r)).2.2.echo.get c = (echoStep cfg P C b x c).2 := by
  cases c <;> rfl

theorem busPass_ufStep : (busPass cfg P C b (x .l) (x .r)).2.2.uf.get c = (ufStep cfg P C b x c).2 := by
  rw [busPass, ufStage_eq]
  cases c <;> rfl

theorem busPass_out :
    (busPass cfg P C b (x .l) (x .r)).1 = (ufStep cfg P C b x .l).1
      ∧ (busPass cfg P C b (x .l) (x .r)).2.1 = (ufStep cfg P C b x .r).1 := by
  rw [busPass, ufStage_eq]
  exact ⟨rfl, rfl⟩

end

namespace Machine

/-- The sum of each channel that the voice pass hands to the bus stages (R170). -/
def State.sums (s : State) (c : Channel) : F32 := slotSum s.cfg s.params s.coefs s.slots c

/-- The bus stages of a TICK run on the sums of the slots' shares (R170). -/
theorem State.sample_eq (s : State) :
    let b := busPass s.cfg s.params s.coefs s.bus (s.sums .l) (s.sums .r)
    s.sample = ({ s with
      slots := (voicePass s.cfg s.params s.coefs s.slots F32.zero F32.zero).1, bus := b.2.2 }).output b.1 b.2.1 := by
  simp only [State.sample, State.sums, voicePass_slotSum]

/-- Settles O60. Each slot field and each bus field is the field of one stage's step; what is left is that the rule's
expression is that step's definition, unfolded. -/
theorem tickComputesEveryStageAsTheRulesSay : Obligations.TickComputesEveryStageAsTheRulesSay := by
  intro payload s P C
  intros
  refine ⟨_, (exec_tick payload s).trans (congrArg _ s.advanceRamps.sample_eq), fun u x m hx => ?slot, fun c => ?bus,
    ?pair⟩
  case slot =>
    obtain ⟨l, r, hu⟩ := getElem?_voicePass s.cfg P C s.slots F32.zero F32.zero u
    rw [hx] at hu
    have hcomb := slotTick_comb s.cfg P C x l r m
    exact ⟨_, hu, slotTick_chirp .., slotTick_selfMix .., slotTick_crossMix .., congrArg Comb.line hcomb,
      congrArg Comb.ap hcomb⟩
  case bus =>
    have hmix := busPass_mixHp s.cfg P C s.bus s.advanceRamps.sums c
    have hcab := busPass_cab s.cfg P C s.bus s.advanceRamps.sums c
    have hecho := busPass_echo s.cfg P C s.bus s.advanceRamps.sums c
    have huf := (busPass_ufStep s.cfg P C s.bus s.advanceRamps.sums c).trans (ufChan_snd ..)
    exact ⟨hmix, congrArg CabChan.hp hcab, congrArg CabChan.t1 hcab, congrArg CabChan.h30 hcab,
      congrArg CabChan.t2 hcab, congrArg CabChan.lp1 hcab, congrArg CabChan.lp2 hcab, congrArg EchoChan.line hecho,
      congrArg EchoChan.d hecho, congrArg EchoChan.hist hecho, congrArg EchoChan.lp hecho, congrArg EchoChan.hp hecho, huf⟩
  case pair =>
    obtain ⟨hl, hr⟩ := busPass_out s.cfg P C s.bus s.advanceRamps.sums
    exact congrArg some (Prod.ext (congrArg (F32.toBits _) (hl.trans (ufChan_fst ..)))
      (congrArg (F32.toBits _) (hr.trans (ufChan_fst ..))))

end Machine
end Sys2Proof

/-!
PROOF. Fully dry crossfades (47_cabinet.md R325, 48_echo_delay_comb.md R354 and R365). All three stages end in
`1.0 * x + (+0.0) * wet`. The product with `1.0` is exact, since a pattern's own magnitude is rounded to that pattern; the
product with `+0.0` is a zero of `wet`'s sign while `wet` is finite and NaN otherwise; and adding a zero to a finite `x` can
only turn `-0.0` into `+0.0`.
-/

namespace Sys2Proof

/-! ## Exact results are not rounded -/

theorem F32.NearestPattern.eq_of_exact {p q t : Nat} (h : F32.NearestPattern p (F32.units q * 2 ^ t) 1 t) : p = q := by
  have hdist := h.dist_le Nat.one_pos q
  rw [mul_one, sub_self] at hdist
  have hscaled : F32.units p * 2 ^ t = F32.units q * 2 ^ t := by omega
  exact F32.units_strictMono.injective (Nat.eq_of_mul_eq_mul_right (Nat.two_pow_pos t) hscaled)

theorem F32.roundScaled_units (neg : Bool) (x : Fin 0x7F800000) {t : Nat} (ht : t ≤ 149) :
    F32.roundScaled neg (F32.units x * 2 ^ t) (149 + t) = .fin neg x := by
  have hlt : F32.units x * 2 ^ t < 2 ^ 2 ^ 10 := by
    refine lt_two_pow_of_le (k := 24 + 253 + t) ?_ (by omega)
    rw [pow_add]
    exact Nat.mul_lt_mul_of_pos_right (F32.units_lt x) (Nat.two_pow_pos t)
  obtain ⟨p, hp, hnear⟩ := F32.roundScaled_eq_pack hlt neg
  rw [hp, hnear.eq_of_exact, F32.pack_of_lt x.isLt]

/-! ## Products with `1.0` and `+0.0`, and sums with a zero -/

theorem F32.one_eq_fin : F32.one = .fin false 0x3F800000 := by decide +kernel

theorem F32.units_one : F32.units 0x3F800000 = 2 ^ 149 := by decide +kernel

theorem F32.one_sub_zero : F32.one.sub F32.zero = F32.one := by decide +kernel

theorem F32.one_mul_of_isFinite {x : F32} (hx : x.isFinite = true) : F32.one.mul x = x := by
  obtain ⟨s, m, rfl⟩ := F32.exists_fin hx
  rw [F32.one_eq_fin, F32.mul_fin, Bool.false_xor]
  change F32.roundScaled s (F32.units 0x3F800000 * F32.units m) (149 + 149) = _
  rw [F32.units_one, mul_comm, F32.roundScaled_units s m le_rfl]

theorem F32.zero_mul_fin (s : Bool) (m : Fin 0x7F800000) : F32.zero.mul (.fin s m) = .fin s 0 := by
  rw [F32.zero, F32.mul_fin, Bool.false_xor, Fin.val_zero, F32.units_zero, Nat.zero_mul, F32.roundScaled_zero]
  rfl

theorem F32.zero_mul_of_not_isFinite {w : F32} (hw : w.isFinite ≠ true) : F32.zero.mul w = .nan := by
  unfold F32.mul
  cases w with
  | nan => rfl
  | inf s => rfl
  | fin s m => exact absurd rfl hw

theorem F32.add_nan (x : F32) : x.add .nan = .nan := by
  unfold F32.add
  cases x <;> rfl

theorem F32.passesAs_add_zero {x : F32} (hx : x.isFinite = true) (t : Bool) : x.PassesAs (x.add (.fin t 0)) := by
  obtain ⟨s, m, rfl⟩ := F32.exists_fin hx
  have hexact : F32.roundScaled s (F32.units m) 149 = .fin s m := by
    simpa using F32.roundScaled_units s m (Nat.zero_le 149)
  rw [F32.add_fin, F32.addFinite, Fin.val_zero, F32.units_zero]
  split
  next hsame => exact .inl hexact
  next hother =>
    split
    next hzero =>
      obtain rfl : m = 0 := Fin.ext (F32.units_eq_zero.mp hzero)
      cases s with
      | false => exact .inl rfl
      | true => exact .inr ⟨rfl, rfl⟩
    next hne =>
      rw [if_pos (Nat.pos_of_ne_zero hne)]
      exact .inl hexact

/-! ## The crossfade -/

theorem F32.dryPass_crossfade {x : F32} (hx : x.isFinite = true) (wet : F32) :
    x.DryPass wet ((F32.one.mul x).add (F32.zero.mul wet)) := by
  rw [F32.one_mul_of_isFinite hx, F32.DryPass]
  split
  next hwet =>
    obtain ⟨s, m, rfl⟩ := F32.exists_fin hwet
    rw [F32.zero_mul_fin]
    exact F32.passesAs_add_zero hx s
  next hwet => rw [F32.zero_mul_of_not_isFinite hwet, F32.add_nan]

/-- The crossfade of the cabinet and the comb, whose dry gain is one minus the mix. -/
theorem F32.dryPass_mix_zero {x : F32} (hx : x.isFinite = true) (wet : F32) :
    x.DryPass wet (((F32.one.sub F32.zero).mul x).add (F32.zero.mul wet)) := by
  rw [F32.one_sub_zero]
  exact F32.dryPass_crossfade hx wet

/-- Settles O57: each stage's output is by definition a crossfade of its input with the wet signal the statement writes
out, and the gains of the hypotheses make it the dry one. -/
theorem dryCrossfadePassesTheSample : Obligations.DryCrossfadePassesTheSample := by
  intro cfg P C x hx
  refine ⟨fun h hmix => ?cabinet, fun decay d c => ?comb, fun e own other target hdry hwet => ?echo⟩
  case cabinet =>
    rw [cabTick, hmix]
    exact F32.dryPass_mix_zero hx _
  case comb => exact F32.dryPass_mix_zero hx _
  case echo =>
    rw [echoChanTick, hdry, hwet]
    exact F32.dryPass_crossfade hx _

end Sys2Proof

/-!
PROOF. The delay line (48_echo_delay_comb.md R340 to R344). A write makes its sample tap 1 and moves every other tap one
further back, so the samples written, youngest first, are the taps from 1 on. At an integer delay below `2^24` every step of
`DL_read` before the interpolation is exact: the fraction is `+0.0`, and the interpolation adds three zeros to the tap.
-/

namespace Sys2Proof

/-! ## Taps -/

/-- Settles O46: `dlWrite_spec`, where the remainder by a power of two is the mask. -/
theorem delayLineWriteStoresOneElement : Obligations.DelayLineWriteStoresOneElement := by
  intro k l x hwf
  rw [Nat.and_two_pow_sub_one_eq_mod]
  exact dlWrite_spec x hwf

theorem Line.w_lt_of_wf {size : Nat} {l : Line} (h : Line.wf size l = true) : l.w < size := by
  simp only [Line.wf, Bool.and_eq_true, decide_eq_true_eq] at h
  exact h.1

/-- A tap keeps its element when the write index moves on: it is then one write older (R340). -/
theorem tapIndex_succ (size w k : Nat) : tapIndex size ((w + 1) % size) (k + 1) = tapIndex size w k := by
  unfold tapIndex
  push_cast
  rw [Int.emod_sub_emod, add_sub_add_right_eq_sub]

theorem tapIndex_zero {size w : Nat} (hw : w < size) : tapIndex size w 0 = w := by
  unfold tapIndex
  rw [Nat.cast_zero, sub_zero, Int.emod_eq_of_lt (Int.natCast_nonneg w) (Int.ofNat_lt.mpr hw), Int.toNat_natCast]

/-- The write index is tap `SIZE`, and no tap younger than that. -/
theorem tapIndex_ne {size w k : Nat} (hw : w < size) (hk : 1 ≤ k) (hlt : k < size) : tapIndex size w k ≠ w := by
  unfold tapIndex
  by_cases hkw : k ≤ w
  · rw [Int.emod_eq_of_lt (by omega) (by omega)]
    omega
  · rw [← Int.add_emod_right, Int.emod_eq_of_lt (by omega) (by omega)]
    omega

theorem Line.tap_dlWrite_one {size : Nat} {l : Line} (x : F32) (h : Line.wf size l = true) :
    (dlWrite size l x).tap size 1 = x := by
  obtain ⟨hstored, -, hw⟩ := dlWrite_spec x h
  rw [Line.tap, hw, tapIndex_succ, tapIndex_zero (Line.w_lt_of_wf h), hstored]

theorem Line.tap_dlWrite_succ {size k : Nat} {l : Line} (x : F32) (h : Line.wf size l = true) (hk : 1 ≤ k)
    (hlt : k < size) : (dlWrite size l x).tap size (k + 1) = l.tap size k := by
  obtain ⟨-, hkept, hw⟩ := dlWrite_spec x h
  rw [Line.tap, hw, tapIndex_succ, hkept _ (tapIndex_ne (Line.w_lt_of_wf h) hk hlt), Line.tap]

theorem Line.wf_foldr_dlWrite {size : Nat} {l : Line} (h : Line.wf size l = true) (ys : List F32) :
    Line.wf size (ys.foldr (fun y line => dlWrite size line y) l) = true := by
  induction ys with
  | nil => exact h
  | cons y ys ih => exact Line.wf_dlWrite y ih

/-- The samples written, youngest first, are the taps from 1 on, as long as they fit into the line (R340). -/
theorem Line.tap_foldr_dlWrite {size : Nat} {l : Line} (h : Line.wf size l = true) {ys : List F32}
    (hfit : ys.length ≤ size) {i : Nat} {x : F32} (hx : ys[i]? = some x) :
    (ys.foldr (fun y line => dlWrite size line y) l).tap size (i + 1) = x := by
  induction ys generalizing i with
  | nil => simp at hx
  | cons y ys ih =>
    have hwf := Line.wf_foldr_dlWrite h ys
    rw [List.length_cons] at hfit
    cases i with
    | zero =>
      obtain rfl : y = x := by simpa using hx
      exact Line.tap_dlWrite_one y hwf
    | succ i =>
      rw [List.getElem?_cons_succ] at hx
      obtain ⟨hi, -⟩ := List.getElem?_eq_some_iff.mp hx
      exact (Line.tap_dlWrite_succ y hwf (Nat.succ_pos i) (by omega)).trans (ih (by omega) hx)

theorem Line.tap_foldl_dlWrite {size : Nat} {l : Line} (h : Line.wf size l = true) {xs : List F32}
    (hfit : xs.length ≤ size) {k : Nat} (hk : 1 ≤ k) {x : F32} (hx : xs.reverse[k - 1]? = some x) :
    (xs.foldl (dlWrite size) l).tap size k = x := by
  obtain ⟨i, rfl⟩ := Nat.exists_eq_add_of_le' hk
  rw [← List.foldr_reverse]
  exact Line.tap_foldr_dlWrite h (by rwa [List.length_reverse]) hx

/-! ## Natural numbers below `2^24` as binary32 values -/

/-- A natural number below `2^24` fits into a significand, so it has a pattern of exactly its value (R12). -/
theorem F32.exists_units_eq {n : Nat} (hn : n < 2 ^ 24) :
    ∃ m : Fin 0x7F800000, F32.units m = n * 2 ^ 149 := by
  rcases Nat.eq_zero_or_pos n with rfl | hpos
  · exact ⟨0, by simp⟩
  · have hlog : Nat.log 2 n < 24 := Nat.log_lt_of_lt_pow hpos.ne' hn
    obtain ⟨e, he⟩ := Nat.exists_eq_add_of_le (Nat.le_of_lt_succ hlog)
    have hlow : 2 ^ 23 ≤ n * 2 ^ e := by
      calc 2 ^ 23 = 2 ^ Nat.log 2 n * 2 ^ e := by rw [← pow_add, ← he]
        _ ≤ n * 2 ^ e := Nat.mul_le_mul_right _ (Nat.pow_log_le_self 2 hpos.ne')
    have hhigh : n * 2 ^ e < 2 ^ 24 := by
      calc n * 2 ^ e < 2 ^ (Nat.log 2 n + 1) * 2 ^ e :=
            Nat.mul_lt_mul_of_pos_right (Nat.lt_pow_succ_log_self Nat.one_lt_two n) (Nat.two_pow_pos e)
        _ = 2 ^ 24 := by rw [← pow_add, add_right_comm, ← he]
    refine ⟨⟨(149 - e) * 8388608 + n * 2 ^ e, by omega⟩, ?_⟩
    rw [F32.units_place (by omega) (by omega), mul_assoc, ← pow_add, Nat.add_sub_cancel' (by omega)]

theorem F32.ofNat_of_units {m : Fin 0x7F800000} {n : Nat} (h : F32.units m = n * 2 ^ 149) :
    F32.ofNat n = .fin false m := by
  rw [F32.ofNat, Nat.shiftLeft_eq, ← h]
  simpa using F32.roundScaled_units false m (Nat.zero_le 149)

theorem F32.exists_ofNat_eq {n : Nat} (hn : n < 2 ^ 24) :
    ∃ m, F32.ofNat n = .fin false m ∧ F32.units m = n * 2 ^ 149 := by
  obtain ⟨m, hm⟩ := F32.exists_units_eq hn
  exact ⟨m, F32.ofNat_of_units hm, hm⟩

theorem F32.toNat_ofNat {n : Nat} (hn : n < 2 ^ 24) : (F32.ofNat n).toNat = n := by
  obtain ⟨m, hm, hunits⟩ := F32.exists_ofNat_eq hn
  rw [hm, F32.toNat, hunits, Nat.shiftRight_eq_div_pow, Nat.mul_div_cancel _ (Nat.two_pow_pos 149)]

theorem F32.floor_positive (m : Fin 0x7F800000) : F32.floor (.fin false m) = F32.ofNat (F32.units m >>> 149) := by
  unfold F32.floor
  rfl

theorem F32.floor_ofNat {n : Nat} (hn : n < 2 ^ 24) : (F32.ofNat n).floor = F32.ofNat n := by
  have hnat := F32.toNat_ofNat hn
  obtain ⟨m, hm, -⟩ := F32.exists_ofNat_eq hn
  rw [hm] at hnat
  rw [hm, F32.floor_positive, ← hm]
  exact congrArg F32.ofNat hnat

theorem F32.sub_self_ofNat {n : Nat} (hn : n < 2 ^ 24) : (F32.ofNat n).sub (F32.ofNat n) = F32.zero := by
  obtain ⟨m, hm, -⟩ := F32.exists_ofNat_eq hn
  rw [hm, F32.sub, F32.neg, F32.add_fin, F32.addFinite, if_neg (by decide), if_pos rfl]

theorem F32.lt_ofNat {i n : Nat} (hi : i < 2 ^ 24) (hn : n < 2 ^ 24) :
    (F32.ofNat i).lt (F32.ofNat n) = true ↔ i < n := by
  obtain ⟨p, hp, hpu⟩ := F32.exists_ofNat_eq hi
  obtain ⟨q, hq, hqu⟩ := F32.exists_ofNat_eq hn
  rw [hp, hq, F32.lt, decide_eq_true_eq, ← F32.units_strictMono.lt_iff_lt, hpu, hqu,
    Nat.mul_lt_mul_right (Nat.two_pow_pos 149)]

theorem F32.clamp_ofNat {lo n hi : Nat} (hlo : lo ≤ n) (hhi : n ≤ hi) (h : hi < 2 ^ 24) :
    (F32.ofNat n).clamp (F32.ofNat lo) (F32.ofNat hi) = F32.ofNat n := by
  have hmax : (F32.ofNat n).max (F32.ofNat lo) = F32.ofNat n := by
    rw [F32.max, F32.gt]
    split
    next => rfl
    next hnot =>
      rw [F32.lt_ofNat (by omega) (by omega)] at hnot
      rw [Nat.le_antisymm hlo (not_lt.mp hnot)]
  rw [F32.clamp, hmax, F32.min]
  split
  next => rfl
  next hnot =>
    rw [F32.lt_ofNat (by omega) h] at hnot
    rw [Nat.le_antisymm hhi (not_lt.mp hnot)]

theorem F32.two_eq_ofNat : F32.two = F32.ofNat 2 := by decide +kernel

/-- An integer delay that the line can hold is read as it is (R341). -/
theorem clampDelay_ofNat {size k : Nat} (hk : 2 ≤ k) (hfit : k + 2 ≤ size) (hsize : size ≤ 16777216) :
    clampDelay size (F32.ofNat k) = F32.ofNat k := by
  rw [clampDelay, F32.two_eq_ofNat]
  exact F32.clamp_ofNat hk (by omega) (by omega)

/-- At an integer delay the interpolation is between the tap and its neighbours, at the fraction `+0.0` (R341, R344). -/
theorem dlRead_ofNat {size k : Nat} (l : Line) (hk : 2 ≤ k) (hfit : k + 2 ≤ size) (hsize : size ≤ 16777216) :
    dlRead size l (F32.ofNat k) =
      interp (l.tap size (k - 1)) (l.tap size k) (l.tap size (k + 1)) (l.tap size (k + 2)) F32.zero := by
  have hlt : k < 2 ^ 24 := by omega
  simp only [dlRead, clampDelay_ofNat hk hfit hsize, F32.floor_ofNat hlt, F32.toNat_ofNat hlt, F32.sub_self_ofNat hlt]

/-! ## The interpolation at the fraction `+0.0` -/

theorem F32.PassesAs.trans {x y z : F32} (hxy : x.PassesAs y) (hyz : y.PassesAs z) : x.PassesAs z := by
  obtain rfl | ⟨rfl, rfl⟩ := hxy
  · exact hyz
  · obtain rfl | ⟨hzero, -⟩ := hyz
    · exact .inr ⟨rfl, rfl⟩
    · exact absurd hzero (by decide)

theorem F32.PassesAs.isFinite {x y : F32} (h : x.PassesAs y) (hx : x.isFinite = true) : y.isFinite = true := by
  obtain rfl | ⟨-, rfl⟩ := h
  · exact hx
  · rfl

/-- Adding `+0.0` times a finite value can only turn `-0.0` into `+0.0`. -/
theorem F32.PassesAs.add_zero_mul {x y w : F32} (h : x.PassesAs y) (hx : x.isFinite = true) (hw : w.isFinite = true) :
    x.PassesAs (y.add (F32.zero.mul w)) := by
  obtain ⟨s, m, rfl⟩ := F32.exists_fin hw
  rw [F32.zero_mul_fin]
  exact h.trans (F32.passesAs_add_zero (h.isFinite hx) s)

theorem F32.PassesAs.sub_zero_mul {x y w : F32} (h : x.PassesAs y) (hx : x.isFinite = true) (hw : w.isFinite = true) :
    x.PassesAs (y.sub (F32.zero.mul w)) := by
  obtain ⟨s, m, rfl⟩ := F32.exists_fin hw
  rw [F32.zero_mul_fin]
  exact h.trans (F32.passesAs_add_zero (h.isFinite hx) (!s))

theorem F32.zero_mul_zero : F32.zero.mul F32.zero = F32.zero := F32.zero_mul_fin false 0

/-- With the fraction `+0.0` the interpolation passes its second tap while the three sums it multiplies by the fraction and
its powers are finite (R342, log 19). -/
theorem passesAs_interp_zero {s0 s1 s2 s3 : F32} (hs : s1.isFinite = true) :
    let a := F32.half.mul (s2.sub s0)
    let b := F32.half.mul (s3.sub s1)
    let c := s1.sub s2
    a.isFinite = true → ((a.add b).add (F32.two.mul c)).isFinite = true →
    (((F32.two.mul a).add b).add ((lit 0x40400000).mul c)).isFinite = true →
    s1.PassesAs (interp s0 s1 s2 s3 F32.zero) := by
  intro a b c ha hk3 hk2
  simp only [interp, F32.zero_mul_zero]
  have hlinear : s1.PassesAs (s1.add (F32.zero.mul a)) := F32.PassesAs.add_zero_mul (.inl rfl) hs ha
  exact (hlinear.add_zero_mul hs hk3).sub_zero_mul hs hk2

/-- Settles O47: the taps by `Line.tap_foldl_dlWrite`; the read at an integer delay is the interpolation at the fraction
`+0.0`, around the tap. -/
theorem tapIsTheSampleWrittenThatLongAgo : Obligations.TapIsTheSampleWrittenThatLongAgo := by
  refine ⟨fun size l xs k x hwf hfit hk hx => Line.tap_foldl_dlWrite hwf hfit hk hx, ?read⟩
  intro size l xs k x hwf hfit hk hroom hsize hx hfin tap a b c ha hk3 hk2
  have htap : tap k = x := Line.tap_foldl_dlWrite hwf hfit (by omega) hx
  rw [dlRead_ofNat _ hk hroom hsize]
  subst htap
  exact passesAs_interp_zero hfin ha hk3 hk2

end Sys2Proof

/-!
PROOF. The utility filter switched off (48_echo_delay_comb.md R370). The last bus stage then passes its pair and its
histories, and no other stage of a TICK reads the filter's coefficient set.
-/

namespace Sys2Proof

/-- The coefficients with another set for the utility filter. -/
def Coefs.withUf (C : Coefs) (k : BqCoef) : Coefs := { C with uf := k }

theorem slotTick_withUf (cfg : Config) (P : Params) (C : Coefs) (k : BqCoef) (v : Slot) (l r : F32) :
    slotTick cfg P (C.withUf k) v l r = slotTick cfg P C v l r := rfl

theorem voicePass_withUf (cfg : Config) (P : Params) (C : Coefs) (k : BqCoef) (vs : List Slot) (l r : F32) :
    voicePass cfg P (C.withUf k) vs l r = voicePass cfg P C vs l r := by
  induction vs generalizing l r with
  | nil => rfl
  | cons v rest ih => simp only [voicePass, slotTick_withUf, ih]

/-- With the filter off the stage is the identity on the pair and on the histories (R370). -/
theorem ufStage_off (cfg : Config) {P : Params} (C : Coefs) (h : PerChannel Hist2) (l r : F32) (hoff : P.ufEnable = false) :
    ufStage cfg P C h l r = (l, r, h) := by
  simp [ufStage, hoff]

theorem busPass_withUf (cfg : Config) {P : Params} (C : Coefs) (k : BqCoef) (b : Bus) (l r : F32)
    (hoff : P.ufEnable = false) : busPass cfg P (C.withUf k) b l r = busPass cfg P C b l r := by
  simp only [busPass, ufStage_off _ _ _ _ _ hoff]
  rfl

namespace Machine

/-- The state with another coefficient set for the utility filter. -/
def State.withUf (s : State) (k : BqCoef) : State := { s with coefs := s.coefs.withUf k }

theorem State.sample_withUf (s : State) (k : BqCoef) (hoff : s.params.ufEnable = false) :
    (s.withUf k).sample = s.sample.withUf k := by
  have hvoices := voicePass_withUf s.cfg s.params s.coefs k s.slots F32.zero F32.zero
  have hbus := fun l r => busPass_withUf s.cfg s.coefs k s.bus l r hoff
  simp only [State.sample, State.withUf, State.output, hvoices, hbus]

/-- Settles O51: the bus pass with its last stage the identity, from a state whose other coefficients are the same. -/
theorem disabledUtilityFilterHoldsItsHistories : Obligations.DisabledUtilityFilterHoldsItsHistories := by
  intro payload s hoff
  have hoff' : s.advanceRamps.params.ufEnable = false := hoff
  refine ⟨_, exec_tick payload s, busPass_uf _ _ _ _ hoff', ?pair, fun k => ⟨_, exec_tick payload (s.withUf k), ?coefs⟩⟩
  case pair =>
    simp only [State.sample, State.output, busPass, ufStage_off _ _ _ _ _ hoff']
    rfl
  case coefs => exact (congrArg State.out (s.advanceRamps.sample_withUf k hoff') :)

end Machine
end Sys2Proof

/-!
PROOF. The control changes (49_control_map.md R382, R456). Every SET is put in one closed form, part of the state by part
(`State.write`, `exec_set`): a register is written by the SET of its own parameter, and what is computed from parameters is
recomputed by the SETs of those it reads. That two SETs commute, or that the second of two wins, is then said of one part at a
time, and not of pairs of parameters.
-/

namespace Sys2Proof

/-- What the SET of parameter `k` makes of a part `x` of the state, where the SETs of the parameters `ps` write `f x` to it and
no other SET touches it. -/
def Param.onSet {α : Type} (k : Param) (ps : List Param) (f : α → α) (x : α) : α := if k ∈ ps then f x else x

/-- The parameter of a ramped register of a module (R53). -/
def Module.param : Module → ModReg → Param
  | .a, .fluct => .aFluct
  | .a, .pmSelf => .aPmSelf
  | .a, .pmCross => .aPmCross
  | .a, .pmSelfShp => .aPmSelfShp
  | .a, .pmCrossShp => .aPmCrossShp
  | .a, .drive => .aDrive
  | .a, .fold => .aFold
  | .a, .asym => .aAsym
  | .a, .mainMix => .aMainmix
  | .a, .ring => .aRing
  | .a, .level => .aLevel
  | .a, .pan => .aPan
  | .b, .fluct => .bFluct
  | .b, .pmSelf => .bPmSelf
  | .b, .pmCross => .bPmCross
  | .b, .pmSelfShp => .bPmSelfShp
  | .b, .pmCrossShp => .bPmCrossShp
  | .b, .drive => .bDrive
  | .b, .fold => .bFold
  | .b, .asym => .bAsym
  | .b, .mainMix => .bMainmix
  | .b, .ring => .bRing
  | .b, .level => .bLevel
  | .b, .pan => .bPan

/-- The ramped registers of a module after the SET of `k`, where register `r` is that of parameter `own r` (R400 to R425). -/
def ModRamps.write (k : Param) (v : Seven) (own : ModReg → Param) (m : ModRamps) : ModRamps where
  fluct := k.onSet [own .fluct] (initRamp · (mapFluct v)) m.fluct
  pmSelf := k.onSet [own .pmSelf] (initRamp · (mapUni v)) m.pmSelf
  pmCross := k.onSet [own .pmCross] (initRamp · (mapUni v)) m.pmCross
  pmSelfShp := k.onSet [own .pmSelfShp] (initRamp · (mapBip v)) m.pmSelfShp
  pmCrossShp := k.onSet [own .pmCrossShp] (initRamp · (mapBip v)) m.pmCrossShp
  drive := k.onSet [own .drive] (initRamp · (mapDrive v)) m.drive
  fold := k.onSet [own .fold] (initRamp · (mapUni v)) m.fold
  asym := k.onSet [own .asym] (initRamp · (mapUni v)) m.asym
  mainMix := k.onSet [own .mainMix] (initRamp · (mapBip v)) m.mainMix
  ring := k.onSet [own .ring] (initRamp · (mapUni v)) m.ring
  level := k.onSet [own .level] (initRamp · (mapUni v)) m.level
  pan := k.onSet [own .pan] (initRamp · (mapPan v)) m.pan

/-- The parameter file after the SET of `k`: each register is written by the SET of its own parameter (R400 to R454). -/
def Params.write (P : Params) (k : Param) (v : Seven) : Params where
  mods := ⟨P.mods.a.write k v (Module.param .a), P.mods.b.write k v (Module.param .b)⟩
  keypan := k.onSet [.keypan] (initRamp · (mapBip v)) P.keypan
  mixDrive := k.onSet [.mixDrive] (initRamp · (mapDrive v)) P.mixDrive
  mixFold := k.onSet [.mixFold] (initRamp · (mapUni v)) P.mixFold
  mixAsym := k.onSet [.mixAsym] (initRamp · (mapUni v)) P.mixAsym
  mixLevel := k.onSet [.mixLevel] (initRamp · (mapUni v)) P.mixLevel
  cabDrive := k.onSet [.cabDrive] (initRamp · (mapDrive v)) P.cabDrive
  cabFold := k.onSet [.cabFold] (initRamp · (mapUni v)) P.cabFold
  cabAsym := k.onSet [.cabAsym] (initRamp · (mapUni v)) P.cabAsym
  cabMix := k.onSet [.cabMix] (initRamp · (mapUni v)) P.cabMix
  cabLevel := k.onSet [.cabLevel] (initRamp · (mapCabLevel v)) P.cabLevel
  echoFb := k.onSet [.echoFb] (initRamp · (mapUni v)) P.echoFb
  echoXfb := k.onSet [.echoXfb] (initRamp · (mapUni v)) P.echoXfb
  echoDry := k.onSet [.echoMix] (initRamp · (mapDry v)) P.echoDry
  echoWet := k.onSet [.echoMix] (initRamp · (mapWet v)) P.echoWet
  combMix := k.onSet [.combMix] (initRamp · (mapUni v)) P.combMix
  combDecay := k.onSet [.combDecay] (initRamp · (mapDecay v)) P.combDecay
  chirp := ⟨k.onSet [.aChirp] (fun _ => mapCut v) P.chirp.a, k.onSet [.bChirp] (fun _ => mapCut v) P.chirp.b⟩
  cabLocut := k.onSet [.cabLocut] (fun _ => mapCut v) P.cabLocut
  cabHicut := k.onSet [.cabHicut] (fun _ => mapCut v) P.cabHicut
  cabTilt := k.onSet [.cabTilt] (fun _ => mapTilt v) P.cabTilt
  echoTime := k.onSet [.echoTime] (fun _ => mapTime v) P.echoTime
  echoStereo := k.onSet [.echoStereo] (fun _ => mapBip v) P.echoStereo
  echoHicut := k.onSet [.echoHicut] (fun _ => mapCut v) P.echoHicut
  combAp := k.onSet [.combAp] (fun _ => mapCut v) P.combAp
  combApRes := k.onSet [.combApRes] (fun _ => mapRes v) P.combApRes
  combKt := k.onSet [.combKt] (fun _ => mapUni v) P.combKt
  ufEnable := k.onSet [.ufEnable] (fun _ => mapEnable v) P.ufEnable
  ufType := k.onSet [.ufType] (· + 1) P.ufType
  ufCutoff := k.onSet [.ufCutoff] (fun _ => mapCut v) P.ufCutoff
  ufRes := k.onSet [.ufRes] (fun _ => mapRes v) P.ufRes
  ufShelf := k.onSet [.ufShelf] (fun _ => mapShelf v) P.ufShelf

/-- The coefficient sets after the SET of `k` that left the parameters `P`: a set is recomputed by the SETs of the parameters its
recipe reads (R382). -/
def Coefs.recompute (C : Coefs) (cfg : Config) (P : Params) (k : Param) : Coefs where
  chirp := ⟨k.onSet [.aChirp] (fun _ => opLowPass cfg P.chirp.a) C.chirp.a,
    k.onSet [.bChirp] (fun _ => opLowPass cfg P.chirp.b) C.chirp.b⟩
  combAp := k.onSet [.combAp, .combApRes] (fun _ => combApCoeffs cfg P.combAp P.combApRes) C.combAp
  mixHp := C.mixHp
  cab := k.onSet [.cabLocut, .cabHicut, .cabTilt] (fun _ => cabCoeffs cfg P.cabLocut P.cabHicut P.cabTilt) C.cab
  cabH30 := C.cabH30
  echoLp := k.onSet [.echoHicut] (fun _ => opLowPass cfg P.echoHicut) C.echoLp
  echoHp := C.echoHp
  uf := k.onSet [.ufType, .ufCutoff, .ufRes, .ufShelf] (fun _ => ufCoeffs cfg P.ufType P.ufCutoff P.ufRes P.ufShelf) C.uf

/-- A slot with its comb delay under a key tracking (R362, R366). -/
def Slot.retune (cfg : Config) (kt : F32) (x : Slot) : Slot := { x with combD := combDelay cfg kt x.pitch }

/-! ## The parameter file after two SETs -/

section
variable {α : Type} {k q : Param} {ps : List Param}

theorem Param.onSet_of_mem (h : k ∈ ps) (f : α → α) (x : α) : k.onSet ps f x = f x := if_pos h

theorem Param.onSet_of_notMem (h : k ∉ ps) (f : α → α) (x : α) : k.onSet ps f x = x := if_neg h

/-- The SET of none of `ps` leaves what one of them owns. -/
theorem Param.onSet_other (hk : k ∉ ps) {p : Param} (hp : p ∈ ps) (f : α → α) (x : α) : k.onSet [p] f x = x :=
  Param.onSet_of_notMem (fun h => hk ((List.mem_singleton.mp h : k = p) ▸ hp)) f x

/-- Two different parameters do not own one register. -/
theorem Param.onSet_comm (h : k ≠ q) (p : Param) (f g : α → α) (x : α) :
    k.onSet [p] f (q.onSet [p] g x) = q.onSet [p] g (k.onSet [p] f x) := by
  by_cases hk : k ∈ [p]
  · have hq : q ∉ [p] := fun hq => h ((List.mem_singleton.mp hk).trans (List.mem_singleton.mp hq).symm)
    simp only [Param.onSet_of_notMem hq]
  · simp only [Param.onSet_of_notMem hk]

/-- The second of two SETs of one parameter wins where its write does not see the first. -/
theorem Param.onSet_onSet {f g : α → α} (h : ∀ x, f (g x) = f x) (x : α) :
    k.onSet ps f (k.onSet ps g x) = k.onSet ps f x := by
  by_cases hk : k ∈ ps
  · simp only [Param.onSet_of_mem hk, h]
  · simp only [Param.onSet_of_notMem hk]

end

/-- A new ramp starts from `cur`, which starting a ramp keeps (R192). -/
theorem initRamp_initRamp (r : Ramp) (t u : F32) : initRamp (initRamp r t) u = initRamp r u := rfl

theorem Params.write_comm {k q : Param} (h : k ≠ q) (P : Params) (v w : Seven) :
    (P.write k v).write q w = (P.write q w).write k v := by
  simp only [Params.write, ModRamps.write, Param.onSet_comm h]

theorem Params.write_write {k : Param} (h : k ≠ .ufType) (P : Params) (v w : Seven) :
    (P.write k v).write k w = P.write k w := by
  have hramp (ps : List Param) (t u : F32) (r : Ramp) :
      k.onSet ps (initRamp · u) (k.onSet ps (initRamp · t) r) = k.onSet ps (initRamp · u) r :=
    Param.onSet_onSet (fun r => initRamp_initRamp r t u) r
  have htype (x : BitVec 2) : k.onSet [.ufType] (· + 1) x = x :=
    Param.onSet_of_notMem (fun hk => h (List.mem_singleton.mp hk)) _ x
  simp only [Params.write, ModRamps.write, hramp, htype, Param.onSet_onSet, implies_true]

/-! ## What is recomputed after two SETs -/

/-- `c` reads no parameter but `inputs`, and what it writes does not depend on what it wrote before. -/
def RecomputedFrom {α : Type} (inputs : List Param) (c : Params → α → α) : Prop :=
  (∀ P Q x, c P (c Q x) = c P x) ∧ ∀ (k : Param) (v : Seven) (P : Params), k ∉ inputs → c (P.write k v) = c P

section
variable {α : Type} {inputs : List Param} {c : Params → α → α} {k q : Param}

/-- Where both SETs recompute, each order ends with a recompute from the final parameters; where one does, the other's write is
not read. -/
theorem RecomputedFrom.comm (hc : RecomputedFrom inputs c) (h : k ≠ q) (v w : Seven) (P : Params) (x : α) :
    q.onSet inputs (c ((P.write k v).write q w)) (k.onSet inputs (c (P.write k v)) x) =
      k.onSet inputs (c ((P.write q w).write k v)) (q.onSet inputs (c (P.write q w)) x) := by
  obtain ⟨hover, hreads⟩ := hc
  by_cases hk : k ∈ inputs <;> by_cases hq : q ∈ inputs
  · simp only [Param.onSet_of_mem hk, Param.onSet_of_mem hq, hover, Params.write_comm h]
  · simp only [Param.onSet_of_mem hk, Param.onSet_of_notMem hq, ← Params.write_comm h, hreads q _ _ hq]
  · simp only [Param.onSet_of_notMem hk, Param.onSet_of_mem hq, Params.write_comm h, hreads k _ _ hk]
  · simp only [Param.onSet_of_notMem hk, Param.onSet_of_notMem hq]

theorem RecomputedFrom.recompute_twice (hc : RecomputedFrom inputs c) (P Q : Params) (x : α) :
    k.onSet inputs (c P) (k.onSet inputs (c Q) x) = k.onSet inputs (c P) x := by
  obtain ⟨hover, -⟩ := hc
  exact Param.onSet_onSet (hover P Q) x

end

section
variable (cfg : Config)

theorem recomputedFrom_chirpA : RecomputedFrom [.aChirp] fun P (_ : OpCoef) => opLowPass cfg P.chirp.a :=
  ⟨fun _ _ _ => rfl, fun k v P hk => by simp only [Params.write, Param.onSet_of_notMem hk]⟩

theorem recomputedFrom_chirpB : RecomputedFrom [.bChirp] fun P (_ : OpCoef) => opLowPass cfg P.chirp.b :=
  ⟨fun _ _ _ => rfl, fun k v P hk => by simp only [Params.write, Param.onSet_of_notMem hk]⟩

theorem recomputedFrom_combAp :
    RecomputedFrom [.combAp, .combApRes] fun P (_ : BqCoef) => combApCoeffs cfg P.combAp P.combApRes :=
  ⟨fun _ _ _ => rfl, fun k v P hk => by simp (disch := decide) only [Params.write, Param.onSet_other hk]⟩

theorem recomputedFrom_cab : RecomputedFrom [.cabLocut, .cabHicut, .cabTilt]
    fun P (_ : CabCoefs) => cabCoeffs cfg P.cabLocut P.cabHicut P.cabTilt :=
  ⟨fun _ _ _ => rfl, fun k v P hk => by simp (disch := decide) only [Params.write, Param.onSet_other hk]⟩

theorem recomputedFrom_echoLp : RecomputedFrom [.echoHicut] fun P (_ : OpCoef) => opLowPass cfg P.echoHicut :=
  ⟨fun _ _ _ => rfl, fun k v P hk => by simp only [Params.write, Param.onSet_of_notMem hk]⟩

theorem recomputedFrom_uf : RecomputedFrom [.ufType, .ufCutoff, .ufRes, .ufShelf]
    fun P (_ : BqCoef) => ufCoeffs cfg P.ufType P.ufCutoff P.ufRes P.ufShelf :=
  ⟨fun _ _ _ => rfl, fun k v P hk => by simp (disch := decide) only [Params.write, Param.onSet_other hk]⟩

theorem recomputedFrom_combs : RecomputedFrom [.combKt] fun P => List.map (Slot.retune cfg P.combKt) :=
  ⟨fun P Q xs => List.map_map, fun k v P hk => by simp only [Params.write, Param.onSet_of_notMem hk]⟩

theorem Coefs.recompute_comm {k q : Param} (h : k ≠ q) (C : Coefs) (P : Params) (v w : Seven) :
    (C.recompute cfg (P.write k v) k).recompute cfg ((P.write k v).write q w) q =
      (C.recompute cfg (P.write q w) q).recompute cfg ((P.write q w).write k v) k := by
  simp only [Coefs.recompute, Coefs.mk.injEq, PerModule.mk.injEq, true_and]
  exact ⟨⟨(recomputedFrom_chirpA cfg).comm h v w P _, (recomputedFrom_chirpB cfg).comm h v w P _⟩,
    (recomputedFrom_combAp cfg).comm h v w P _, (recomputedFrom_cab cfg).comm h v w P _,
    (recomputedFrom_echoLp cfg).comm h v w P _, (recomputedFrom_uf cfg).comm h v w P _⟩

theorem Coefs.recompute_recompute (k : Param) (C : Coefs) (P Q : Params) :
    (C.recompute cfg P k).recompute cfg Q k = C.recompute cfg Q k := by
  simp only [Coefs.recompute, Param.onSet_onSet, implies_true]

end

namespace Machine

/-! ## The state after a SET -/

/-- The state after the SET of `k` with value `v`, part by part. `SET UF_TYPE` with value 0 is no such write (R451). -/
def State.write (s : State) (k : Param) (v : Seven) : State :=
  { s with
    params := s.params.write k v
    coefs := s.coefs.recompute s.cfg (s.params.write k v) k
    slots := k.onSet [.combKt] (List.map (Slot.retune s.cfg (s.params.write k v).combKt)) s.slots
    bus := { s.bus with uf := k.onSet [.ufType] (fun _ => ⟨Hist2.clear, Hist2.clear⟩) s.bus.uf } }

/-- The state after the SET of `k` with value `v` (R382, R451). -/
def State.afterSet (s : State) (k : Param) (v : Seven) : State := if k = .ufType ∧ v = 0 then s else s.write k v

theorem State.afterSet_ufType_zero (s : State) : s.afterSet .ufType 0 = s := rfl

theorem State.afterSet_of_writes {k : Param} {v : Seven} (h : ¬ (k = .ufType ∧ v = 0)) (s : State) :
    s.afterSet k v = s.write k v := if_neg h

theorem execSetParam_of_writes {k : Param} {v : Seven} (h : k = .ufType → v ≠ 0) (s : State) :
    execSetParam k v s = .next (s.write k v) := by
  cases k with
  | ufType => exact congrArg Host.Outcome.next (if_neg (h rfl))
  | _ => rfl

/-- Every SET, in the closed form (R382). -/
theorem exec_set (k : Param) (v : Seven) (s : State) : exec (k.setInstr v) s = .next (s.afterSet k v) := by
  refine (exec_setInstr k v s).trans ?_
  by_cases h : k = .ufType ∧ v = 0
  · obtain ⟨rfl, rfl⟩ := h
    exact congrArg Host.Outcome.next (State.afterSet_ufType_zero s).symm
  · exact (execSetParam_of_writes (not_and.mp h) s).trans (congrArg Host.Outcome.next (State.afterSet_of_writes h s).symm)

theorem State.write_comm {k q : Param} (h : k ≠ q) (s : State) (v w : Seven) :
    (s.write k v).write q w = (s.write q w).write k v := by
  simp only [State.write, State.mk.injEq, Bus.mk.injEq, true_and]
  exact ⟨(recomputedFrom_combs s.cfg).comm h v w s.params _, Params.write_comm h s.params v w,
    Coefs.recompute_comm s.cfg h s.coefs s.params v w, Param.onSet_comm h.symm ..⟩

theorem State.write_write {k : Param} (h : k ≠ .ufType) (s : State) (v w : Seven) :
    (s.write k v).write k w = s.write k w := by
  simp only [State.write, Params.write_write h, Coefs.recompute_recompute, Param.onSet_onSet, implies_true,
    (recomputedFrom_combs s.cfg).recompute_twice]

theorem State.afterSet_comm {k q : Param} (h : k ≠ q) (s : State) (v w : Seven) :
    (s.afterSet k v).afterSet q w = (s.afterSet q w).afterSet k v := by
  by_cases hk : k = .ufType ∧ v = 0
  · obtain ⟨rfl, rfl⟩ := hk
    simp only [State.afterSet_ufType_zero]
  · by_cases hq : q = .ufType ∧ w = 0
    · obtain ⟨rfl, rfl⟩ := hq
      simp only [State.afterSet_ufType_zero]
    · simp only [State.afterSet_of_writes hk, State.afterSet_of_writes hq, State.write_comm h]

theorem thenStep_exec_set (k q : Param) (v w : Seven) (s : State) :
    thenStep (exec (k.setInstr v) s) (exec (q.setInstr w)) = .next ((s.afterSet k v).afterSet q w) := by
  rw [exec_set]
  exact exec_set q w _

/-- Settles O42: two SETs own different registers, and what both recompute ends recomputed from the final parameters. -/
theorem controlWritesCommute : Obligations.ControlWritesCommute := by
  intro k q v w s hkq
  rw [thenStep_exec_set, thenStep_exec_set, State.afterSet_comm hkq]

/-- Settles O41: no write but that of UF_TYPE reads the value of its own register, but for `cur`, which it keeps. -/
theorem lastControlWriteWins : Obligations.LastControlWriteWins := by
  intro k v w s hk
  have hwrites (x : Seven) : ¬ (k = .ufType ∧ x = 0) := fun h => hk h.1
  rw [thenStep_exec_set, exec_set]
  simp only [State.afterSet_of_writes (hwrites _), State.write_write hk]

/-- Settles O38: of the voices and the bus, SET COMB_KT writes the comb delays, SET UF_TYPE the histories of the utility filter
and no other SET anything. -/
theorem controlChangesLeaveTheVoices : Obligations.ControlChangesLeaveTheVoices := by
  intro k v s t h
  cases (exec_set k v s).symm.trans h
  by_cases hidle : k = .ufType ∧ v = 0
  · obtain ⟨rfl, rfl⟩ := hidle
    exact ⟨rfl, rfl, rfl, rfl, fun u x hx => ⟨x.combD, hx⟩⟩
  · rw [State.afterSet_of_writes hidle]
    by_cases hk : k ∈ [Param.combKt]
    · have hslots : (s.write k v).slots = _ := Param.onSet_of_mem hk _ _
      refine ⟨rfl, rfl, rfl, ?_, fun u x hx => ⟨combDelay s.cfg (s.params.write k v).combKt x.pitch, ?_⟩⟩
      · rw [hslots, List.length_map]
      · rw [hslots, List.getElem?_map, hx]
        rfl
    · have hslots : (s.write k v).slots = s.slots := Param.onSet_of_notMem hk _ _
      exact ⟨rfl, rfl, rfl, congrArg List.length hslots, fun u x hx => ⟨x.combD, hslots ▸ hx⟩⟩

end Machine
end Sys2Proof

/-!
PROOF. The single SETs (49_control_map.md R400 to R454) and their value mappings (R383 to R399).
-/

namespace Sys2Proof

/-- Settles O36: the map is that comparison. -/
theorem enableMapThreshold : Obligations.EnableMapThreshold := fun _ => decide_eq_true_iff

/-- Settles O37: each mapping evaluated at the three values, through the rounding functions that are marked irreducible. -/
theorem mappingValues : Obligations.MappingValues := by
  unfold Obligations.MappingValues
  with_unfolding_all decide

namespace Machine

/-- Settles O27: every SET of the table is `startRamp` of its register, and that is `initRamp` with the state around it kept. -/
theorem rampedSetsStartOneRamp : Obligations.RampedSetsStartOneRamp := by
  intro e he v s
  suffices hset : execSetParam e.1 v s = .next (s.startRamp e.2.1 (e.2.2 v)) by
    rw [exec_setInstr, hset, State.startRamp, initRamp_spec]
  fin_cases he <;> rfl

theorem exec_setEchoMix (v : Seven) (s : State) :
    exec (.setEchoMix v) s = .next ((s.startRamp .echoDry (mapDry v)).startRamp .echoWet (mapWet v)) := rfl

/-- Settles O28: two ramp starts on different registers. -/
theorem echoMixStartsBothRamps : Obligations.EchoMixStartsBothRamps := by
  intro v s
  refine ⟨_, exec_setEchoMix v s, rfl, rfl, fun r => ?_⟩
  simp only [State.startRamp_params, Params.ramp_setRamp]
  by_cases hdry : r = .echoDry
  · simp [hdry]
  · simp [hdry]

/-- Settles O33: each clause is the definition of its SET, with the recompute written out. -/
theorem unrampedSetsWriteAndRecompute : Obligations.UnrampedSetsWriteAndRecompute := by
  and_intros <;> exact fun _ _ => rfl

theorem exec_setUfType_zero (s : State) : exec (.setUfType 0) s = .next s := rfl

theorem exec_setUfType_of_ne {v : Seven} (hv : v ≠ 0) (s : State) : exec (.setUfType v) s = .next s.advanceUfType :=
  congrArg Host.Outcome.next (if_neg hv)

/-- The counter wraps (R16, R455). -/
theorem ufType_succ (x : BitVec 2) : x + 1 = BitVec.ofNat 2 ((x.toNat + 1) % 4) :=
  BitVec.eq_of_toNat_eq (by simp [BitVec.toNat_add])

/-- Settles O34: the advance, with the counter of two bits read as a number mod 4. -/
theorem ufTypeSetAdvancesTheType : Obligations.UfTypeSetAdvancesTheType := by
  refine ⟨exec_setUfType_zero, fun v s hv => ?_⟩
  rw [exec_setUfType_of_ne hv, ← ufType_succ]
  rfl

end Machine
end Sys2Proof

/-!
PROOF. Control words and the CTRL instruction (49_control_map.md R381, R382), and the writers of the filter-type counter (R455).
-/

namespace Sys2Proof.Machine

theorem exec_ctrl_of_none {id : Seven} {s : State} (h : s.cfg.paramOf id = none) (v : Seven) :
    exec (.ctrl id v) s = .next s := by
  simp only [exec, execCtrl, h]

theorem exec_ctrl_of_some {id : Seven} {k : Param} {s : State} (h : s.cfg.paramOf id = some k) (v : Seven) :
    exec (.ctrl id v) s = exec (k.setInstr v) s := by
  rw [exec_setInstr]
  simp only [exec, execCtrl, h]

/-- Settles O40. -/
theorem ctrlInstructionLooksItsIdUp : Obligations.CtrlInstructionLooksItsIdUp :=
  ⟨fun _ v _ h => exec_ctrl_of_none h v, fun _ v _ _ h => exec_ctrl_of_some h v⟩

theorem step_controlWord_of_some {s : State} {rest : List PortWord} {id v : Seven} {k : Param} (hlegal : s.cfg.legal = true)
    (hp : s.port = commandWord s.cfg.sCtrl (dataByte id) (dataByte v) :: rest) (h : s.cfg.paramOf id = some k) :
    step s = exec (k.setInstr v) (s.taken rest) := by
  rw [step_of_decode hp (decode_controlWord hlegal id v), decodeControl_of_some h]

theorem step_controlWord_of_none {s : State} {rest : List PortWord} {id v : Seven} (hlegal : s.cfg.legal = true)
    (hp : s.port = commandWord s.cfg.sCtrl (dataByte id) (dataByte v) :: rest) (h : s.cfg.paramOf id = none) :
    step s = .next (s.taken rest) := by
  rw [step_of_decode hp (decode_controlWord hlegal id v), decodeControl_of_none h]
  exact exec_ctrl_of_none (s := s.taken rest) h v

/-- Settles O39: `paramOf` is the look-up that the statement writes out. -/
theorem controlWordSetsTheMappedParameter : Obligations.ControlWordSetsTheMappedParameter := by
  intro s rest id v hlegal hp
  split
  next n hentry =>
    have hparam : s.cfg.paramOf id = Param.ofId? n := by simp only [Config.paramOf, hentry]
    cases hk : Param.ofId? n with
    | some k => exact step_controlWord_of_some hlegal hp (hparam.trans hk)
    | none => exact step_controlWord_of_none hlegal hp (hparam.trans hk)
  next hno =>
    have hparam : s.cfg.paramOf id = none := by
      cases h : s.cfg.paramOf id with
      | none => rfl
      | some k => exact absurd (Config.paramOf_eq_some_iff.mp h) (hno k.id)
    exact step_controlWord_of_none hlegal hp hparam

/-! ## The counter of the filter type (R455) -/

theorem State.afterSet_ufType {k : Param} (hk : k ≠ .ufType) (v : Seven) (s : State) :
    (s.afterSet k v).params.ufType = s.params.ufType := by
  rw [State.afterSet_of_writes fun h => hk h.1]
  exact Param.onSet_of_notMem (fun h => hk (List.mem_singleton.mp h)) (· + 1) s.params.ufType

theorem execNoteOn_params (pitch vel : Seven) (s : State) :
    ∃ t, execNoteOn pitch vel s = .next t ∧ t.params = s.params := by
  unfold execNoteOn
  split
  next v _ => exact ⟨_, rfl, s.strike_params s.victimList v pitch vel⟩
  next => exact ⟨s, rfl, rfl⟩

/-- No instruction that a word decodes to writes the counter, but SET UF_TYPE and RESET (R455). A control change that selects
UF_TYPE decodes to its SET, so CTRL is here only with an ID that selects nothing. -/
theorem exec_ufType {i : Instr} {s : State} (hwf : i.wellFormed s.cfg = true) (hset : ∀ v, i ≠ .setUfType v)
    (hreset : ∀ p, i ≠ .reset p) : ∃ t, exec i s = .next t ∧ t.params.ufType = s.params.ufType := by
  rw [← Instr.instr_shape i] at hwf hset hreset ⊢
  generalize i.shape = x at hwf hset hreset ⊢
  cases x with
  | noteOn pitch vel =>
    obtain ⟨t, ht, hparams⟩ := execNoteOn_params pitch vel s
    exact ⟨t, ht, congrArg Params.ufType hparams⟩
  | noteOnV0 pitch | noteOff pitch _ => exact ⟨_, rfl, congrArg Params.ufType (s.keyUp_params pitch)⟩
  | set k v => exact ⟨_, exec_set k v s, State.afterSet_ufType (by rintro rfl; exact hset v rfl) v s⟩
  | ctrl id v => exact ⟨s, exec_ctrl_of_none (Option.isNone_iff_eq_none.mp hwf) v, rfl⟩
  | tick payload => exact ⟨_, exec_tick payload s, rfl⟩
  | reset payload => exact absurd rfl (hreset payload)
  | reserved payload => exact ⟨_, exec_reserved payload s, rfl⟩

/-- Settles O35: the advance adds 1 to a counter of two bits, and a step runs at most one instruction, which is another. -/
theorem ufTypeHasOneWriterBesidesReset : Obligations.UfTypeHasOneWriterBesidesReset := by
  refine ⟨⟨rfl, rfl, rfl, rfl⟩, fun _ => rfl, fun v s => ?advance, fun s t h hother => ?otherStep⟩
  case advance =>
    by_cases hv : v = 0
    · subst hv
      exact ⟨s, exec_setUfType_zero s, rfl⟩
    · refine ⟨_, exec_setUfType_of_ne hv s, ?_⟩
      rw [if_neg hv]
      exact BitVec.toNat_add ..
  case otherStep =>
    cases hp : s.port with
    | nil =>
      cases (step_of_port_nil hp).symm.trans h
      rfl
    | cons w rest =>
      cases hd : decode s.cfg w with
      | error e =>
        cases (step_of_decode_error hp hd).symm.trans h
        rfl
      | ok i =>
        obtain ⟨hset, hreset⟩ := hother w rest i hp hd
        obtain ⟨u, hu, htype⟩ := exec_ufType (s := s.taken rest) (wellFormed_of_decode hd) hset hreset
        cases ((step_of_decode hp hd).trans hu).symm.trans h
        exact htype

end Sys2Proof.Machine

/-!
PROOF. SET COMB_KT and NOTE_ON commute (49_control_map.md R456). Giving the state another key tracking (`State.withKeyTracking`)
moves past every operation on the lists, which do not read or write a comb delay, and past the strike of a note, which sets the
delay of its slot from the tracking it finds.
-/

namespace Sys2Proof.Machine

/-- The state under another key tracking, every comb delay retuned (R366, R449). -/
def State.withKeyTracking (s : State) (kt : F32) : State := (s.setParams { s.params with combKt := kt }).retuneCombs

theorem exec_setCombKt (v : Seven) (s : State) : exec (.setCombKt v) s = .next (s.withKeyTracking (mapUni v)) := rfl

section
variable (s : State) (kt : F32)

theorem State.setList_withKeyTracking (x : ListRegs) (l : ListName) :
    (s.withKeyTracking kt).setList x l = (s.setList x l).withKeyTracking kt := by
  cases l <;> rfl

theorem State.list_withKeyTracking (l : ListName) : (s.withKeyTracking kt).list l = s.list l := by
  cases l <;> rfl

theorem State.slot_withKeyTracking (v : Nat) :
    (s.withKeyTracking kt).slots[v]? = (s.slots[v]?).map (Slot.retune s.cfg kt) := List.getElem?_map

/-- A write to a slot moves past the retuning where it does so in one slot. -/
theorem State.modifySlot_withKeyTracking {f g : Slot → Slot}
    (h : ∀ x, g (Slot.retune s.cfg kt x) = Slot.retune s.cfg kt (f x)) (v : Nat) :
    (s.withKeyTracking kt).modifySlot v g = (s.modifySlot v f).withKeyTracking kt := by
  have hslots : (s.slots.map (Slot.retune s.cfg kt)).modify v g = (s.slots.modify v f).map (Slot.retune s.cfg kt) := by
    refine List.ext_getElem? fun u => ?_
    simp only [List.getElem?_modify, List.getElem?_map, Option.map_eq_map, Option.map_map]
    congr 1
    funext x
    by_cases hu : v = u
    · simp [hu, h]
    · simp [hu]
  exact congrArg (fun xs => { s.withKeyTracking kt with slots := xs }) hslots

theorem State.modifySlot_withKeyTracking_self (f : Slot → Slot)
    (h : ∀ x, f (Slot.retune s.cfg kt x) = Slot.retune s.cfg kt (f x)) (v : Nat) :
    (s.withKeyTracking kt).modifySlot v f = (s.modifySlot v f).withKeyTracking kt :=
  s.modifySlot_withKeyTracking kt h v

theorem State.linkNext_withKeyTracking (l : ListName) (p n : Option Nat) :
    (s.withKeyTracking kt).linkNext l p n = (s.linkNext l p n).withKeyTracking kt := by
  cases p with
  | none => simp only [State.linkNext, State.list_withKeyTracking, State.setList_withKeyTracking]
  | some p => exact s.modifySlot_withKeyTracking_self kt (fun x => { x with next := n }) (fun _ => rfl) p

theorem State.linkPrev_withKeyTracking (l : ListName) (n p : Option Nat) :
    (s.withKeyTracking kt).linkPrev l n p = (s.linkPrev l n p).withKeyTracking kt := by
  cases n with
  | none => simp only [State.linkPrev, State.list_withKeyTracking, State.setList_withKeyTracking]
  | some n => exact s.modifySlot_withKeyTracking_self kt (fun x => { x with prev := p }) (fun _ => rfl) n

theorem State.unlink_withKeyTracking (l : ListName) (v : Nat) :
    (s.withKeyTracking kt).unlink l v = (s.unlink l v).withKeyTracking kt := by
  unfold State.unlink
  rw [State.slot_withKeyTracking]
  cases s.slots[v]? with
  | none => rfl
  | some x =>
    simp only [Option.map_some, Slot.retune, State.linkNext_withKeyTracking, State.linkPrev_withKeyTracking,
      State.list_withKeyTracking, State.setList_withKeyTracking]
    exact State.modifySlot_withKeyTracking_self _ kt (fun y => { y with prev := none, next := none }) (fun _ => rfl) v

theorem State.append_withKeyTracking (l : ListName) (v : Nat) :
    (s.withKeyTracking kt).append l v = (s.append l v).withKeyTracking kt := by
  have hlinks := s.modifySlot_withKeyTracking_self kt (fun x => { x with prev := (s.list l).tail, next := none })
    (fun _ => rfl) v
  simp only [State.append, State.list_withKeyTracking, hlinks, State.linkNext_withKeyTracking,
    State.setList_withKeyTracking]

/-- The three writes of a note to its slot in one (R164). -/
theorem State.strike_eq_modifySlot (l : ListName) (v : Nat) (pitch vel : Seven) :
    s.strike l v pitch vel = ((s.unlink l v).append .asg v).modifySlot v (struckSlot s.cfg s.params pitch vel) := by
  simp only [State.strike, State.setPitch, State.modifySlot, List.modify_modify_eq, State.append_cfg, State.append_params,
    State.unlink_cfg, State.unlink_params]
  rfl

/-- The note's own delay is computed for its pitch, as the retuning computes it (R163, R366). -/
theorem State.strike_withKeyTracking (l : ListName) (v : Nat) (pitch vel : Seven) :
    (s.withKeyTracking kt).strike l v pitch vel = (s.strike l v pitch vel).withKeyTracking kt := by
  rw [State.strike_eq_modifySlot, State.strike_eq_modifySlot, State.unlink_withKeyTracking, State.append_withKeyTracking]
  refine State.modifySlot_withKeyTracking _ kt (fun x => ?_) v
  rw [State.append_cfg, State.unlink_cfg]
  rfl

theorem execNoteOn_withKeyTracking (pitch vel : Seven) :
    execNoteOn pitch vel (s.withKeyTracking kt) =
      thenStep (execNoteOn pitch vel s) fun t => .next (t.withKeyTracking kt) := by
  have hvictim : (s.withKeyTracking kt).victim = s.victim := rfl
  simp only [execNoteOn, hvictim]
  split
  next v _ => exact congrArg Host.Outcome.next (s.strike_withKeyTracking kt s.victimList v pitch vel)
  next => rfl

end

/-- Settles O43: every operation of NOTE_ON commutes with the retuning. -/
theorem keyTrackingCommutesWithNoteOn : Obligations.KeyTrackingCommutesWithNoteOn := by
  intro pitch vel v s
  have hset : exec (.setCombKt v) = fun t => .next (t.withKeyTracking (mapUni v)) := funext (exec_setCombKt v)
  rw [hset]
  exact (execNoteOn_withKeyTracking s (mapUni v) pitch vel).symm

end Sys2Proof.Machine

/-!
PROOF. The configuration (60_exceptions.md R468, R473, R474): no step changes it, an empty port changes nothing at all, and
elaboration refuses the values outside R7.
-/

namespace Sys2Proof

/-- Conditions that the legal values of R7 meet, one for each value that R474 gives as an example of a refused one. -/
theorem Config.conditions_of_legal {cfg : Config} (h : cfg.legal = true) :
    1 ≤ cfg.n ∧ 8000 ≤ cfg.fs.toNat ∧ cfg.fs = F32.ofNat cfg.fs.toNat ∧ isPowerOfTwo cfg.combBuf = true
      ∧ cfg.sNoteOn ≠ cfg.sNoteOff ∧ cfg.ctrlMap.all ctrlEntryLegal = true := by
  simp only [Config.legal, Bool.and_eq_true, decide_eq_true_eq, bne_iff_ne] at h
  obtain ⟨⟨⟨⟨⟨⟨⟨⟨⟨⟨⟨⟨⟨⟨⟨⟨⟨hslots, -⟩, hinteger⟩, hrate⟩, -⟩, -⟩, -⟩, -⟩, hbuffer⟩, -⟩, -⟩, hmap⟩, -⟩, -⟩, -⟩, hstatus⟩, -⟩, -⟩ := h
  exact ⟨hslots, hrate, hinteger, hbuffer, hstatus, hmap⟩

/-- Where half of a natural number below `2^24` has a pattern, the product with `0.5` is exact (R12). -/
theorem F32.ofNat_mul_half {n : Nat} (hn : n < 2 ^ 24) {x : Fin 0x7F800000} (hx : 2 * F32.units x = n * 2 ^ 149) :
    (F32.ofNat n).mul F32.half = .fin false x := by
  obtain ⟨m, hm, hunits⟩ := F32.exists_ofNat_eq hn
  have hhalf : F32.half = .fin false 0x3F000000 := rfl
  have hprod : F32.units m * F32.units (0x3F000000 : Fin 0x7F800000) = F32.units x * 2 ^ 149 := by
    rw [hunits, show F32.units (0x3F000000 : Fin 0x7F800000) = 2 ^ 148 by decide]
    omega
  rw [hm, hhalf, F32.mul_fin, hprod]
  exact F32.roundScaled_units false x le_rfl

theorem F32.units_of_eq_ofNat {s : Bool} {x : Fin 0x7F800000} {n : Nat} (hn : n < 2 ^ 24)
    (h : .fin s x = F32.ofNat n) : F32.units x = n * 2 ^ 149 := by
  obtain ⟨m, hm, hunits⟩ := F32.exists_ofNat_eq hn
  cases h.trans hm
  exact hunits

namespace Machine

/-- Settles O3. -/
theorem stepOnEmptyPortChangesNothing : Obligations.StepOnEmptyPortChangesNothing := fun _ hp => step_of_port_nil hp

/-- No instruction writes the configuration (R468). -/
theorem State.Effect.cfg_eq {s t : State} (heff : s.Effect t) : t.cfg = s.cfg := by
  cases heff with
  | strike v pitch vel _ => exact s.strike_cfg ..
  | release v _ _ => exact s.release_cfg v
  | unchanged | startRamp | startEchoRamps | retune | unramped | tick | reset => rfl

/-- Settles O6: taking a word keeps the configuration, and so does every effect of an instruction. -/
theorem configurationNeverChanges : Obligations.ConfigurationNeverChanges :=
  fun s _ => step_keeps (P := fun u => u.cfg = s.cfg) (fun _ _ hu => hu) (fun _ _ hu heff => heff.cfg_eq.trans hu) rfl

/-- Settles O13: each of the refused examples breaks one condition of R7. -/
theorem elaborationRefusesIllegalConfigurations : Obligations.ElaborationRefusesIllegalConfigurations := by
  refine ⟨fun cfg h => if_pos h, fun cfg h => if_neg (Bool.eq_false_iff.mp h), Config.legal_default,
    ?noSlot, ?slowRate, ?fractionalRate, ?bufferSize, ?equalStatuses, ?unnamedParameter⟩
  all_goals
    refine Bool.eq_false_iff.mpr fun h => ?_
    obtain ⟨hslots, hrate, hinteger, hbuffer, hstatus, hmap⟩ := Config.conditions_of_legal h
  case noSlot => exact absurd hslots (by decide)
  case slowRate =>
    have hvalue : (F32.ofNat 7999).toNat = 7999 := F32.toNat_ofNat (by decide)
    exact absurd (hvalue ▸ hrate) (by decide)
  case fractionalRate =>
    have hfs : (F32.ofNat 16001).mul F32.half = .fin false 0x45FA0400 := F32.ofNat_mul_half (by decide) (by decide)
    simp only [hfs] at hinteger
    exact absurd (F32.units_of_eq_ofNat (by decide) hinteger) (by decide)
  case bufferSize => exact absurd hbuffer (by decide)
  case equalStatuses => exact absurd rfl hstatus
  case unnamedParameter => exact absurd hmap (by decide)

end Machine
end Sys2Proof

/-!
PROOF. What RESET leaves in the voice pool (10_state.md R43 to R46, R50, 70_reset_and_hazards.md R490): slot `v` of the pool is
`resetSlot cfg v`, and `set_pitch(v, 60)`, done last, writes the frequencies, the increments and the comb delay alone.
-/

namespace Sys2Proof.Machine

/-- Settles O14. -/
theorem resetLeavesTheResetState : Obligations.ResetLeavesTheResetState := exec_reset

theorem State.slot_resetOf {cfg : Config} {v : Nat} (hv : v < cfg.n) :
    (State.resetOf cfg).slots[v]? = some (resetSlot cfg v) := by
  simp [State.resetOf, resetSlots, hv]

section
variable (cfg : Config) (v : Nat)

/-- The fields that the key commands write (R43). -/
theorem resetSlot_assignment :
    (resetSlot cfg v).tag = .free ∧ (resetSlot cfg v).pitch = 60 ∧ (resetSlot cfg v).vel = F32.zero := ⟨rfl, rfl, rfl⟩

/-- The LCG seeds, two for each slot (R44). -/
theorem resetSlot_seeds :
    (resetSlot cfg v).osc.a.s = BitVec.ofNat 32 (2 * v + 1) ∧ (resetSlot cfg v).osc.b.s = BitVec.ofNat 32 (2 * v + 2) :=
  ⟨rfl, rfl⟩

/-- The feedback registers (R45). -/
theorem resetSlot_mixes :
    (resetSlot cfg v).selfMix = ⟨F32.zero, F32.zero⟩ ∧ (resetSlot cfg v).crossMix = ⟨F32.zero, F32.zero⟩ := ⟨rfl, rfl⟩

/-- The oscillator fields that `set_pitch` leaves as they were (R44, R163). -/
theorem resetSlot_osc (m : Module) : ((resetSlot cfg v).osc.get m).p = F32.zero
    ∧ ((resetSlot cfg v).osc.get m).r = F32.zero ∧ ((resetSlot cfg v).osc.get m).chirp.s1 = F32.zero := by
  cases m <;> exact ⟨rfl, rfl, rfl⟩

/-- Both combs are clear (R46). -/
theorem resetSlot_comb (m : Module) : (resetSlot cfg v).comb.get m = resetComb := by
  cases m <;> rfl

end

/-- Settles O15: the lists by `lists_resetOf`, the slots field by field. -/
theorem resetSlotValues : Obligations.ResetSlotValues := by
  refine fun cfg hn => ⟨State.lists_resetOf hn, fun v hv => ⟨resetSlot cfg v, State.slot_resetOf hv, ?_⟩⟩
  obtain ⟨htag, hpitch, hvel⟩ := resetSlot_assignment cfg v
  obtain ⟨hseedA, hseedB⟩ := resetSlot_seeds cfg v
  obtain ⟨hself, hcross⟩ := resetSlot_mixes cfg v
  obtain ⟨hcombD, hfreq⟩ := resetSlot_pitch cfg v
  refine ⟨htag, hpitch, hvel, hcombD, hseedA, hseedB, hself, hcross, fun m => ?_⟩
  obtain ⟨hphase, hrandom, hchirp⟩ := resetSlot_osc cfg v m
  obtain ⟨hf0, hinc⟩ := hfreq m
  rw [resetSlot_comb]
  exact ⟨hphase, hrandom, hchirp, hf0, hinc, rfl, fun _ => rfl, rfl, rfl⟩

end Sys2Proof.Machine
